-- ==== Sys2Proof/Word.lean ====
section
/-! DEFINITION. The word types of the NK412: the cell and payload word, the byte of a frame, the event counter. -/

namespace Sys2Proof

/-- One cell of capture memory, one request argument, one payload word: 32 bits (00_scope Conventions "Cell", R177). -/
abbrev Word := BitVec 32

/-- One byte of a frame (R177). -/
abbrev Byte := BitVec 8

/-- One event counter: 16 bits wide (R138). -/
abbrev Counter := BitVec 16

end Sys2Proof
end

