-- ==== Sys2Proof/Config.lean ====
section
/-! DEFINITION. The sizes the NK412 fixes, and the two values its note leaves open (no body: nothing can be proved of them). -/

namespace Sys2Proof.Config

/-- Cells of capture memory (R71). -/
abbrev storeCells : Nat := 8192
/-- Cells of a record header, and of the header reservation (R82). -/
abbrev headerCells : Nat := 4
/-- Header cells of a sweep block (R73). -/
abbrev blockHeaderCells : Nat := 2
/-- Tags of the Request Tracker (R26). -/
abbrev tagCount : Nat := 32
/-- Entries of the Sweep Program table (R1). -/
abbrev programEntries : Nat := 128
/-- Conditions of the Trigger Condition table (R48). -/
abbrev conditionCount : Nat := 8
/-- Places of the Request Queue (R144). -/
abbrev requestPlaces : Nat := 8
/-- Bound of the total of queued requests, deferred request and waiting responses (R144). -/
abbrev totalPlaces : Nat := 12
/-- Places of the Notice Queue (R130). -/
abbrev noticePlaces : Nat := 8
/-- Places of the forward buffer (R169) and of the passback buffer (R170). -/
abbrev bufferPlaces : Nat := 4
/-- Places of the Delivery Queue, the open record counted (R113). -/
abbrev recordPlaces : Nat := 16
/-- Payload cells a record frame can carry (R117). -/
abbrev framePayload : Nat := 32
/-- Length of a TRIGOUT pulse, in ticks (R67). -/
abbrev pulseTicks : Nat := 10
/-- Good receptions in a row that take an ALIGNING link UP (R163). -/
abbrev alignRunUp : Nat := 4
/-- Bad receptions in a row that take an UP link DOWN (R163). -/
abbrev badRunDown : Nat := 8
/-- CONVERT frames granted before a waiting forward frame gets its turn (R171). -/
abbrev upTurns : Nat := 4
/-- Frames of other sources granted before an offered record frame gets its turn (R172). -/
abbrev downTurns : Nat := 3
/-- Arguments a REQUEST frame can carry (R142, R165). -/
abbrev maxArgs : Nat := 9
/-- REFCLK cycles of one tick: 1 µs of the 25 MHz clock (00_scope "Tick"; DEDUCED, log entry 2). -/
abbrev cyclesPerTick : Nat := 25
/-- REFCLK cycles of one frame byte: 0.08 ticks (R168; DEDUCED, log entry 2). -/
abbrev cyclesPerByte : Nat := 2

/-- FREE VALUE (log entry 3): which of several internal events that come together is taken first.
The note gives both outcomes and leaves the order open; the argument is the count of such choices made so far. -/
opaque tieBreak : Nat → Nat

/-- FREE VALUE (log entry 4): what a sample cell would show that holds no sample yet.
R72 says every cell of a completed block holds its sample, so no cell of a record shows this; the argument is the cell's place. -/
opaque unwrittenCell : Nat → Word

end Sys2Proof.Config
end

