-- ==== Sys2Proof/Syntax.lean ====
section
/-! DEFINITION. The commands: one constructor per row of spec/opcode_table.json, with the data each event brings from outside. -/

namespace Sys2Proof

/-- The two link ports (09, opening). -/
inductive Port where
  | intake
  | delivery
  deriving DecidableEq, Repr

/-- The levels of the five sampled input lines at an event: MARK0..MARK2 (bit n is MARKn), TRIG0, TRIG1 (00_scope Lines). -/
structure Lines where
  marks : BitVec 3
  trig0 : Bool
  trig1 : Bool
  deriving DecidableEq, Repr

/-- A management request, by the fields of a REQUEST frame (R142). -/
structure Request where
  destination : BitVec 4
  source : BitVec 4
  tag : Byte
  kind : Byte
  args : List Word
  deriving DecidableEq, Repr

/-- A SAMPLE frame's fields (R35, R177); its node byte is not examined (R166). -/
structure SampleFrame where
  tag : Byte
  unit : BitVec 4
  channel : BitVec 4
  value : BitVec 16
  overRange : Bool
  unitFault : Bool
  deriving DecidableEq, Repr

/-- A whole frame as it stands on the wire, between start delimiter and check (R177). -/
structure RawFrame where
  kind : Byte
  node : Byte
  payload : List Byte
  check : BitVec 16
  deriving DecidableEq, Repr

/-- The commands of the NK412: the executions of the front request of the Request Queue, the arrivals of frames and
line events, the expiries of timers, the ends of transmissions, and the resets. -/
inductive Instr where
  /-- ECHO executes (R158). -/
  | echo
  /-- READ_STATUS executes (R157). -/
  | readStatus
  /-- SET_PARAMETER executes (R155). -/
  | setParameter
  /-- GET_PARAMETER executes (R156). -/
  | getParameter
  /-- WRITE_PROGRAM_ENTRY executes (R4). -/
  | writeProgramEntry
  /-- READ_PROGRAM_ENTRY executes (R5). -/
  | readProgramEntry
  /-- START_RUN executes (R8, R9); a first sweep samples the lines. -/
  | startRun (lines : Lines)
  /-- STOP_RUN executes (R21). -/
  | stopRun
  /-- WRITE_CONDITION executes (R64). -/
  | writeCondition
  /-- READ_CONDITION executes (R65). -/
  | readCondition
  /-- FORCE_TRIGGER executes (R62). -/
  | forceTrigger
  /-- ARM executes (R89, R90). -/
  | arm
  /-- DISARM executes (R106). -/
  | disarm
  /-- CLEAR_HALT executes (R105). -/
  | clearHalt
  /-- OPEN_WINDOW executes (R115). -/
  | openWindow
  /-- CLOSE_WINDOW executes (R122). -/
  | closeWindow
  /-- DISCARD_RECORD executes (R124, R125). -/
  | discardRecord
  /-- READ_COUNTERS executes (R139). -/
  | readCounters
  /-- RESET_ENGINE executes: it moves to the deferred slot (R159). -/
  | resetEngine
  /-- A request of a kind outside the catalogue executes (R149). -/
  | unknownRequestKind
  /-- A good REQUEST frame arrives on delivery inbound (R143, R167). -/
  | requestArrival (r : Request)
  /-- A good SAMPLE frame arrives on intake inbound (R36, R166). -/
  | sampleReceived (f : SampleFrame) (lines : Lines)
  /-- A good frame of any other kind arrives on intake inbound (R166). -/
  | passbackReceived (f : RawFrame)
  /-- A bad frame is received (R165). -/
  | badFrame (p : Port) (lines : Lines)
  /-- The idle alignment sequence is received (R163). -/
  | idleAlignmentSequence (p : Port)
  /-- A good idle group is received (R163). -/
  | goodIdleGroup (p : Port)
  /-- A malformed idle group is received (R163). -/
  | malformedIdleGroup (p : Port) (lines : Lines)
  /-- The port's receiver reports loss of signal (R163). -/
  | lossOfSignal (p : Port) (lines : Lines)
  /-- The pacer expires (R13, R17). -/
  | pacerExpiry (lines : Lines)
  /-- SWEEP_START changes to the given level (R15). -/
  | sweepStartEdge (level : Bool) (lines : Lines)
  /-- The spacing timer expires (R30). -/
  | spacingTimerExpiry (lines : Lines)
  /-- The transmission of a CONVERT frame ends (R33). -/
  | convertSent
  /-- The remaining timeout of the request with this tag reaches 0 (R34). -/
  | requestTimeout (tag : Fin 32) (lines : Lines)
  /-- The remaining quarantine time of this tag reaches 0 (R40). -/
  | quarantineExpiry (tag : Fin 32) (lines : Lines)
  /-- The TRIGOUT pulse timer expires (R67). -/
  | trigoutPulseExpiry
  /-- The transmission of a record frame ends (R118, R125). -/
  | recordFrameEnd
  /-- The transmission of a response, notice, passback or forwarded frame ends (R168). -/
  | frameTransmissionEnd (p : Port)
  /-- Both outbound lanes are quiet and the deferred RESET_ENGINE applies its effects (R160). -/
  | resetEffects
  /-- The RESET line was held low and is released with these straps (ADDR0 is bit 0) and this SWEEP_START level (R25, R141). -/
  | hardReset (straps : BitVec 4) (sweepStart : Bool)
  /-- A whole frame is received on a port whose link is ALIGNING (R163). -/
  | frameReceivedWhileAligning (p : Port) (good : Bool)
  deriving DecidableEq, Repr

end Sys2Proof
end

