-- ==== Sys2Proof/Machine/Frames.lean ====
section
/-! DEFINITION. The frame envelope and its check (R164, R177), and which received frames are good (R165). -/

namespace Sys2Proof

/-- One bit step of the check register: shift left, and reduce by the generator 0x1021 when a one leaves (R164). -/
def checkBit (r : BitVec 16) : BitVec 16 := if r.msb then (r <<< 1) ^^^ 0x1021#16 else r <<< 1

/-- One byte enters the check register, most significant bit first (R164). -/
def checkByte (r : BitVec 16) (b : Byte) : BitVec 16 :=
  checkBit (checkBit (checkBit (checkBit (checkBit (checkBit (checkBit (checkBit
    (r ^^^ (b.setWidth 16 <<< 8)))))))))

/-- The 16-bit check of a list of bytes: the register starts at 0xFFFF and is not inverted at the end (R164). -/
def checkOf (bytes : List Byte) : BitVec 16 := bytes.foldl checkByte 0xFFFF#16

/-- The bytes the check covers: kind, node byte, length, payload (R164). -/
def RawFrame.covered (f : RawFrame) : List Byte :=
  f.kind :: f.node :: BitVec.ofNat 8 f.payload.length :: f.payload

/-- The two bytes of a 16-bit field, most significant first (R177). -/
def bytes16 (v : BitVec 16) : List Byte := [v.extractLsb' 8 8, v.extractLsb' 0 8]

/-- The four bytes of a 32-bit field, most significant first (R177). -/
def bytes32 (v : Word) : List Byte :=
  [v.extractLsb' 24 8, v.extractLsb' 16 8, v.extractLsb' 8 8, v.extractLsb' 0 8]

/-- A frame on the wire: start delimiter 0x7E, the covered bytes, the check high byte first (R164, R177). -/
def RawFrame.wire (f : RawFrame) : List Byte := 0x7E#8 :: (f.covered ++ bytes16 f.check)

/-- A frame the engine builds: its check is computed (R164). -/
def buildFrame (kind node : Byte) (payload : List Byte) : RawFrame :=
  let f : RawFrame := ⟨kind, node, payload, 0⟩
  { f with check := checkOf f.covered }

/-- The node byte: destination in bits 7..4, source in bits 3..0 (R177). -/
def nodeByte (destination source : BitVec 4) : Byte := destination ++ source

/-- Frame kind codes (R179). -/
def kindConvert : Byte := 1
def kindSample : Byte := 2
def kindRequest : Byte := 3
def kindResponse : Byte := 4
def kindNotice : Byte := 5
def kindRecord : Byte := 6

/-- The six bytes of a frame that are not payload: delimiter, kind, node, length, check (R177). -/
def envelopeBytes : Nat := 6

/-- A received frame's check matches and its length byte can hold its length (R164, R177). -/
def RawFrame.checks (f : RawFrame) : Bool :=
  f.payload.length ≤ 255 && f.check == checkOf f.covered

/-- A frame received on intake inbound is good: its check matches, and a SAMPLE carries exactly 5 bytes (R165). -/
def RawFrame.goodOnIntake (f : RawFrame) : Bool :=
  f.checks && (f.kind != kindSample || f.payload.length == 5)

/-- A SAMPLE payload's fields: tag, unit and channel, signed value, flags (R177); nothing when the length is not 5. -/
def sampleOf (payload : List Byte) : Option SampleFrame :=
  match payload with
  | [tag, addr, hi, lo, flags] =>
    some { tag, unit := addr.extractLsb' 4 4, channel := addr.extractLsb' 0 4, value := hi ++ lo,
           overRange := flags.getLsbD 0, unitFault := flags.getLsbD 1 }
  | _ => none

/-- The words of a byte list, four bytes each, most significant first (R177); nothing when bytes are left over. -/
def wordsOf : List Byte → Option (List Word)
  | [] => some []
  | a :: b :: c :: d :: rest => (wordsOf rest).map (fun ws => (a ++ b ++ c ++ d) :: ws)
  | _ => none

/-- A REQUEST frame's fields: request tag, kind code, argument count, arguments (R142, R177).
Nothing when the count byte does not agree with the length or exceeds 9 (R165, R177). -/
def requestOf (f : RawFrame) : Option Request :=
  match f.payload with
  | tag :: kind :: count :: rest =>
    match wordsOf rest with
    | some args =>
      if args.length = count.toNat ∧ args.length ≤ Config.maxArgs then
        some { destination := f.node.extractLsb' 4 4, source := f.node.extractLsb' 0 4, tag, kind, args }
      else none
    | none => none
  | _ => none

/-- The REQUEST frame of a request; a forwarded request is sent with these bytes (R146, R177). -/
def requestFrame (r : Request) : RawFrame :=
  buildFrame kindRequest (nodeByte r.destination r.source)
    (r.tag :: r.kind :: BitVec.ofNat 8 r.args.length :: r.args.flatMap bytes32)

/-- The command that the reception of a whole frame on intake inbound is, its link UP (R165, R166). -/
def intakeReception (f : RawFrame) (lines : Lines) : Instr :=
  if f.goodOnIntake then
    if f.kind = kindSample then
      match sampleOf f.payload with
      | some smp => .sampleReceived smp lines
      | none => .badFrame .intake lines
    else .passbackReceived f
  else .badFrame .intake lines

/-- The command that the reception of a whole frame on delivery inbound is, its link UP (R165, R167). -/
def deliveryReception (f : RawFrame) (lines : Lines) : Instr :=
  if f.checks ∧ f.kind = kindRequest then
    match requestOf f with
    | some r => .requestArrival r
    | none => .badFrame .delivery lines
  else .badFrame .delivery lines

end Sys2Proof
end

