-- ==== Sys2Proof/WellFormed.lean ====
section
/-! DEFINITION. Which commands the hardware's own words admit: a check on the data a frame event brings. -/

namespace Sys2Proof

/-- A REQUEST frame that arrives as good carries 0..9 arguments (R142, R165). -/
def Request.wf (r : Request) : Bool := r.args.length ≤ Config.maxArgs

/-- A frame that arrives as passback has a matching check, at most 255 payload bytes and is no SAMPLE (R165, R166). -/
def RawFrame.wfPassback (f : RawFrame) : Bool := f.checks && f.kind != kindSample

/-- The well-formed commands. Every other operand is bounded by its type. -/
def Instr.wf : Instr → Bool
  | .requestArrival r => r.wf
  | .passbackReceived f => f.wfPassback
  | .echo => true
  | .readStatus => true
  | .setParameter => true
  | .getParameter => true
  | .writeProgramEntry => true
  | .readProgramEntry => true
  | .startRun _ => true
  | .stopRun => true
  | .writeCondition => true
  | .readCondition => true
  | .forceTrigger => true
  | .arm => true
  | .disarm => true
  | .clearHalt => true
  | .openWindow => true
  | .closeWindow => true
  | .discardRecord => true
  | .readCounters => true
  | .resetEngine => true
  | .unknownRequestKind => true
  | .sampleReceived _ _ => true
  | .badFrame _ _ => true
  | .idleAlignmentSequence _ => true
  | .goodIdleGroup _ => true
  | .malformedIdleGroup _ _ => true
  | .lossOfSignal _ _ => true
  | .pacerExpiry _ => true
  | .sweepStartEdge _ _ => true
  | .spacingTimerExpiry _ => true
  | .convertSent => true
  | .requestTimeout _ _ => true
  | .quarantineExpiry _ _ => true
  | .trigoutPulseExpiry => true
  | .recordFrameEnd => true
  | .frameTransmissionEnd _ => true
  | .resetEffects => true
  | .hardReset _ _ => true
  | .frameReceivedWhileAligning _ _ => true

end Sys2Proof
end

