-- ==== Sys2Proof/Decode.lean ====
section
/-! DEFINITION. The decoder of command words: no row of spec/opcode_table.json gives bits, so no word spells a command. -/

namespace Sys2Proof

/-- The command an opcode-table word spells: none, since no row of the table has bits (98_reader: n_rows_with_fixed 0).
Commands come as frames and line events; the frame layouts of R177 are read in Machine/Frames.lean. -/
def decodeTableWord (_nbits _w : Nat) : Option Instr := none

end Sys2Proof
end

