-- ==== Sys2Proof/Machine/State.lean ====
section
/-! DEFINITION. Everything the NK412 holds, block by block, as plain data; the machine after reset; the outcome types. -/

namespace Sys2Proof.Machine

/-! ## Sweep Controller (01) -/

/-- One Sweep Program entry (R1); `store` is STORE, its absence MONITOR. -/
structure Entry where
  unit : BitVec 4
  channel : BitVec 4
  setting : BitVec 4
  store : Bool
  deriving DecidableEq, Repr

/-- The run state (01 "Runs and their states"). -/
inductive RunState where
  | stopped
  | running
  | waitingLine
  | burst
  | stopping
  deriving DecidableEq, Repr

/-- The end cause of a run (R20). -/
inductive EndCause where
  | stopRequest
  | limit
  | halt
  deriving DecidableEq, Repr

/-- The record of the sweep in progress (01 opening, R10). -/
structure SweepRecord where
  number : Word
  startTime : Word
  afterGap : Bool
  deriving DecidableEq, Repr

/-- The Sweep Controller's state (01 opening). -/
structure SweepController where
  /-- the Sweep Program table of 128 entries (R1) -/
  program : List Entry
  /-- the fixed S (R3) -/
  fixedS : Nat
  run : RunState
  /-- ticks the pacer still counts; none when idle (R6) -/
  pacer : Option Nat
  burstCount : Nat
  /-- the recorded end cause; none when clear (R20) -/
  endCause : Option EndCause
  sweepNumber : Word
  /-- the sweep in progress; none when there is none (R10) -/
  sweep : Option SweepRecord
  gapPending : Bool
  /-- the level of SWEEP_START from which the next edge is seen (R15) -/
  startLevel : Bool
  deriving DecidableEq, Repr

/-! ## Request Tracker (02) -/

/-- The state of a tag (R26); a QUARANTINED tag carries its remaining quarantine time in ticks. -/
inductive TagState where
  | free
  | inFlight
  | quarantined (remaining : Nat)
  deriving DecidableEq, Repr

/-- One entry of the in-flight table (R27); `remaining` is absent while the entry waits to send. -/
structure InFlight where
  tag : Nat
  index : Nat
  unit : BitVec 4
  channel : BitVec 4
  setting : BitVec 4
  markers : BitVec 3
  issueTime : Word
  remaining : Option Nat
  deriving DecidableEq, Repr

/-- A CONVERT frame (R32, R177). -/
structure ConvertFrame where
  tag : Nat
  unit : BitVec 4
  channel : BitVec 4
  setting : BitVec 4
  deriving DecidableEq, Repr

/-- The Request Tracker's state (02 opening). -/
structure RequestTracker where
  /-- the tag table: tag t stands at place t (R26) -/
  tags : List TagState
  /-- the in-flight table, oldest issue first (R27) -/
  inFlight : List InFlight
  /-- the last-issued tag (R31) -/
  lastTag : Nat
  /-- the program index to issue next; none is "at end" (R28) -/
  cursor : Option Nat
  /-- ticks the spacing timer still counts; none when expired (R30) -/
  spacing : Option Nat
  /-- CONVERT frames queued to the upstream arbiter, oldest first (R33, R171) -/
  converts : List ConvertFrame
  deriving DecidableEq, Repr

/-! ## Trigger Unit (03) -/

/-- The role of a condition (R48). -/
inductive Role where
  | off
  | qualify
  | fire
  deriving DecidableEq, Repr

/-- The source of a condition (R48). -/
inductive Source where
  | entry (index : Nat)
  | trig0
  | trig1
  deriving DecidableEq, Repr

/-- The test of a condition (R48). -/
inductive Test where
  | above
  | below
  | inside
  | outside
  | high
  | low
  deriving DecidableEq, Repr

/-- The readiness of a condition (R49). -/
inductive Readiness where
  | unknown
  | ready
  | spent
  deriving DecidableEq, Repr

/-- A trigger condition: the fields of R48, the runtime state of R49, and its place in the fire record (R55):
`fired` holds the role at the moment of its fire, none when it is not in the record. -/
structure Condition where
  role : Role
  source : Source
  test : Test
  threshold : BitVec 16
  low : BitVec 16
  high : BitVec 16
  hysteresis : Nat
  qualifyCount : Nat
  readiness : Readiness
  runCount : Nat
  fired : Option Role
  deriving DecidableEq, Repr

/-- The stage (R56). -/
inductive Stage where
  | openStage
  | awaitQualifier
  | qualified (window : Nat)
  deriving DecidableEq, Repr

/-- The cause of a TRIGGER verdict (R58). -/
inductive Cause where
  | condition (n : Nat)
  | force
  deriving DecidableEq, Repr

/-- The verdict of a sweep (R58). -/
inductive Verdict where
  | trigger (cause : Cause)
  | qualify
  | none
  deriving DecidableEq, Repr

/-- The Trigger Unit's state (03 opening). -/
structure TriggerUnit where
  /-- the Trigger Condition table of 8 conditions (R48) -/
  conditions : List Condition
  stage : Stage
  /-- the forced flag (R62) -/
  forced : Bool
  /-- the TRIGOUT line, true when high (R67) -/
  trigout : Bool
  /-- ticks the pulse timer still counts; none when idle (R67) -/
  pulse : Option Nat
  deriving DecidableEq, Repr

/-! ## Capture Memory (04) -/

/-- Why a sample is MISSING (R42). -/
inductive Reason where
  | timeout
  | unitFault
  | link
  | mismatch
  deriving DecidableEq, Repr

/-- What a sample holds: a value with its OVER_RANGE flag, or MISSING with its reason (R42, R72). -/
inductive Content where
  | value (v : BitVec 16) (overRange : Bool)
  | missing (reason : Reason)
  deriving DecidableEq, Repr

/-- A sample (R42, R72). -/
structure Sample where
  content : Content
  index : Nat
  markers : BitVec 3
  setting : BitVec 4
  deriving DecidableEq, Repr

/-- A sweep block (R73); a cell is none until its sample is written (R72). -/
structure Block where
  number : Word
  startTime : BitVec 24
  afterGap : Bool
  triggerSweep : Bool
  cells : List (Option Sample)
  deriving DecidableEq, Repr

/-- Capture Memory's own state (04 opening); the open record's cells stand in the Capture Controller's open record,
those of the closed records in the Delivery Queue. -/
structure CaptureMemory where
  /-- the free count (R71) -/
  free : Nat
  /-- the history ring, oldest first (R81) -/
  history : List Block
  /-- the current sweep block, present while a stored sweep is in progress (R75) -/
  current : Option Block
  /-- the header reservation, 0 or 4 cells (R82) -/
  reservation : Nat
  deriving DecidableEq, Repr

/-! ## Capture Controller (05) -/

/-- The capture state (R87). -/
inductive CaptureState where
  | idle
  | filling
  | ready
  | post
  | halted
  deriving DecidableEq, Repr

/-- The halt cause (05 opening). -/
inductive HaltCause where
  | none
  | noSpace
  | rearmNoSpace
  | rearmQueueFull
  deriving DecidableEq, Repr

/-- The open record: the opening fields of its header, its post-trigger count remaining, its blocks (R74, R95). -/
structure OpenRecord where
  id : BitVec 16
  cause : Cause
  shortHead : Bool
  headLost : Bool
  s : Nat
  triggerSweep : Word
  preBlocks : Nat
  postRemaining : Nat
  blocks : List Block
  deriving DecidableEq, Repr

/-- The Capture Controller's state (05 opening). -/
structure CaptureController where
  state : CaptureState
  haltCause : HaltCause
  /-- the quota counter (R100) -/
  quota : Nat
  /-- the record id counter: the id the next record takes (R96) -/
  nextId : BitVec 16
  openRecord : Option OpenRecord
  deriving DecidableEq, Repr

/-! ## Delivery Unit (06) -/

/-- The four-cell header of a closed record (R74). -/
structure RecordHeader where
  id : BitVec 16
  cause : Cause
  shortHead : Bool
  headLost : Bool
  truncated : Bool
  cut : Bool
  s : Nat
  triggerSweep : Word
  preBlocks : Nat
  postBlocks : Nat
  total : Nat
  deriving DecidableEq, Repr

/-- A closed record of the Delivery Queue: its header, the cells of it that the store still holds in increasing record
offset (those of a frame in transmission among them, R117), and whether DISCARD_RECORD has taken it while a frame of it
was in transmission (R125). -/
structure QueuedRecord where
  header : RecordHeader
  cells : List Word
  discarded : Bool
  deriving DecidableEq, Repr

/-- Window A or B (R114). -/
inductive WindowId where
  | a
  | b
  deriving DecidableEq, Repr

/-- The fields of a window (R114). -/
structure Window where
  opened : Bool
  size : Nat
  filled : Nat
  tag : Byte
  endAtRecord : Bool
  closePending : Bool
  deriving DecidableEq, Repr

/-- The abandonment note: the discarded record's id and the position it had reached (R125). -/
structure AbandonNote where
  id : BitVec 16
  position : Nat
  deriving DecidableEq, Repr

/-- The Delivery Unit's state (06 opening); the frame under way is the record frame on the delivery lane. -/
structure DeliveryUnit where
  /-- the Delivery Queue, oldest close first (R113) -/
  queue : List QueuedRecord
  windowA : Window
  windowB : Window
  /-- the current-window pointer (R114) -/
  current : WindowId
  /-- the delivery position: cells of the head record sent (06 opening) -/
  position : Nat
  note : Option AbandonNote
  deriving DecidableEq, Repr

/-- A record frame: the fields of R117, its payload as laid out by R178. -/
structure RecordFrame where
  window : WindowId
  windowTag : Byte
  windowOffset : Nat
  recordId : BitVec 16
  recordOffset : Nat
  first : Bool
  last : Bool
  abandoned : Bool
  payload : List Word
  deriving DecidableEq, Repr

/-! ## Notice Queue and counters (07) -/

/-- A notice with the fields of its kind (R136). -/
inductive Notice where
  | runEnded (cause : EndCause)
  | triggered (id : BitVec 16) (number : Word) (cause : Cause) (shortHead headLost : Bool)
  | recordClosed (id : BitVec 16) (total : Nat) (shortHead headLost truncated cut : Bool) (quota : Nat)
  | windowDone (window : WindowId) (tag : Byte) (filled : Nat) (early : Bool)
  | halted (cause : HaltCause)
  | intakeLinkChanged (up : Bool)
  deriving DecidableEq, Repr

/-- The Notice Queue block (07 opening). -/
structure NoticeQueue where
  /-- notices waiting to be sent, oldest first (R130) -/
  queue : List Notice
  /-- the dropped-before count, 0..255 (R132) -/
  droppedBefore : Nat
  deriving DecidableEq, Repr

/-- The fourteen event counters, in the order of R139. -/
structure Counters where
  intakeBadFrames : Counter
  deliveryBadFrames : Counter
  strayReplies : Counter
  lateReplies : Counter
  mismatchedReplies : Counter
  replyTimeouts : Counter
  missedSweeps : Counter
  ignoredStartEdges : Counter
  unstoredSweeps : Counter
  historySpaceDrops : Counter
  lostNotices : Counter
  passbackDrops : Counter
  forwardDrops : Counter
  droppedRequests : Counter
  deriving DecidableEq, Repr

/-! ## Management Controller (08) -/

/-- START_MODE (R7). -/
inductive StartMode where
  | freeRun
  | lineStart
  deriving DecidableEq, Repr

/-- START_EDGE (R7). -/
inductive StartEdge where
  | rising
  | falling
  deriving DecidableEq, Repr

/-- TRIGOUT_MODE (R67). -/
inductive TrigoutMode where
  | off
  | pulse
  | level
  deriving DecidableEq, Repr

/-- The sixteen parameters (R155); EARLY_TRIGGER is true for ACCEPT, QUOTA_REPEAT true for ON. -/
structure Params where
  sweepPeriod : Nat
  startMode : StartMode
  startEdge : StartEdge
  burstSweeps : Nat
  sweepLimit : Nat
  programLength : Nat
  entrySpacing : Nat
  inflightLimit : Nat
  replyTimeout : Nat
  pretriggerSweeps : Nat
  posttriggerSweeps : Nat
  earlyAccept : Bool
  captureQuota : Nat
  quotaRepeat : Bool
  qualifyWindow : Nat
  trigoutMode : TrigoutMode
  deriving DecidableEq, Repr

/-- The status of a response (R154). -/
inductive Status where
  | done
  | busy
  | badState
  | badValue
  | notFound
  | noSpace
  | queueFull
  | unknownRequest
  | forwardFull
  | linkDown
  | superseded
  deriving DecidableEq, Repr

/-- A response: the node it goes to, the request's tag and kind, status and payload (R153, R154). -/
structure Response where
  destination : BitVec 4
  tag : Byte
  kind : Byte
  status : Status
  payload : List Word
  deriving DecidableEq, Repr

/-- The deferred slot (R151). -/
inductive Deferred where
  | empty
  | stopRun (r : Request)
  | resetEngine (r : Request)
  deriving DecidableEq, Repr

/-- The Management Controller's state (08 opening); its parameter set stands beside it in `State.params`. -/
structure ManagementController where
  /-- the node number, 0..14 (R141) -/
  node : BitVec 4
  /-- the Request Queue, oldest arrival first (R148) -/
  requests : List Request
  deferred : Deferred
  /-- the Response Queue, oldest posting first (R153) -/
  responses : List Response
  /-- the reset hold (R159) -/
  resetHold : Bool
  deriving DecidableEq, Repr

/-! ## The ports (09) -/

/-- The state of a link (R163). -/
inductive LinkState where
  | down
  | aligning
  | up
  deriving DecidableEq, Repr

/-- What both ports hold of their link (09 opening). -/
structure Link where
  state : LinkState
  /-- the alignment run, 0..4 -/
  alignRun : Nat
  /-- the bad run, 0..8 -/
  badRun : Nat
  deriving DecidableEq, Repr

/-- A frame in transmission on the intake outbound lane: a CONVERT or a forwarded request (R171). -/
inductive UpFrame where
  | convert (f : ConvertFrame)
  | forward (r : Request)
  deriving DecidableEq, Repr

/-- A frame in transmission on the delivery outbound lane, by its source (R172). -/
inductive DownFrame where
  | response (r : Response)
  | passback (f : RawFrame)
  | notice (n : Notice) (droppedBefore : Nat)
  | record (f : RecordFrame)
  deriving DecidableEq, Repr

/-- The intake port (09 opening); `cycles` is what is left of the transmission, in REFCLK cycles (R168, log entry 2). -/
structure IntakePort where
  link : Link
  lane : Option UpFrame
  cycles : Nat
  /-- the upstream arbiter's turn count, 0..4 (R171) -/
  turn : Nat
  /-- the forward buffer, oldest first (R169) -/
  forward : List Request
  deriving DecidableEq, Repr

/-- The delivery port (09 opening). -/
structure DeliveryPort where
  link : Link
  lane : Option DownFrame
  cycles : Nat
  /-- the downstream arbiter's turn count, 0..3 (R172) -/
  turn : Nat
  /-- the passback buffer, oldest first (R170) -/
  passback : List RawFrame
  deriving DecidableEq, Repr

/-- The clock: the tick counter, and the REFCLK cycles since its last tick (00_scope "Tick", log entry 2). -/
structure Clock where
  tick : Word
  phase : Nat
  deriving DecidableEq, Repr

/-- The whole engine, the levels last seen on its sampled lines, and the commands waiting to be taken. -/
structure State where
  sweeper : SweepController
  tracker : RequestTracker
  trigger : TriggerUnit
  memory : CaptureMemory
  capture : CaptureController
  delivery : DeliveryUnit
  notices : NoticeQueue
  counters : Counters
  params : Params
  manager : ManagementController
  intake : IntakePort
  deliveryPort : DeliveryPort
  clock : Clock
  /-- the levels of MARK0..MARK2, TRIG0, TRIG1 at the latest event that brought them (log entry 5) -/
  lines : Lines
  /-- how many free choices of order were made: the model's own field (log entry 3) -/
  choices : Nat
  /-- the commands that wait to be taken, first in, first out: the model's own field (log entry 1) -/
  pending : List Instr
  deriving DecidableEq, Repr

/-- Why the machine stops with a fault: never. The note gives every command an effect in every state, so this
type has no constructor, and no meaning can raise one (safe: nothing is left out by it). -/
inductive Fault where
  deriving DecidableEq, Repr

/-- Why a command is refused. -/
inductive Refusal where
  /-- Raised by an arm of exec whose command has no meaning yet, with the command's mnemonic; no arm raises it (safe). -/
  | notModelled (mnemonic : String)
  deriving DecidableEq, Repr

/-- What every meaning answers. -/
abbrev Result := Host.Outcome State Fault Refusal

/-! ## Reset values -/

/-- A Sweep Program entry after hard reset (R25). -/
def Entry.reset : Entry := ⟨0, 0, 0, false⟩

/-- A condition after hard reset (R70). -/
def Condition.reset : Condition :=
  { role := .off, source := .entry 0, test := .above, threshold := 0, low := 0, high := 0, hysteresis := 0,
    qualifyCount := 1, readiness := .unknown, runCount := 0, fired := none }

/-- A window after hard reset (R129). -/
def Window.reset : Window :=
  { opened := false, size := 0, filled := 0, tag := 0, endAtRecord := false, closePending := false }

/-- The counters after hard reset (R138). -/
def Counters.zero : Counters := ⟨0, 0, 0, 0, 0, 0, 0, 0, 0, 0, 0, 0, 0, 0⟩

/-- The parameter defaults (R155). -/
def Params.defaults : Params :=
  { sweepPeriod := 1000, startMode := .freeRun, startEdge := .rising, burstSweeps := 1, sweepLimit := 0,
    programLength := 1, entrySpacing := 0, inflightLimit := 4, replyTimeout := 40, pretriggerSweeps := 16,
    posttriggerSweeps := 64, earlyAccept := false, captureQuota := 1, quotaRepeat := false, qualifyWindow := 8,
    trigoutMode := .off }

/-- A link after hard reset (R176). -/
def Link.reset : Link := ⟨.down, 0, 0⟩

/-- The engine at the release of hard reset, with this node number and this SWEEP_START level
(R25, R47, R70, R86, R112, R129, R137, R138, R162, R176). -/
def State.afterReset (node : BitVec 4) (startLevel : Bool) : State :=
  { sweeper :=
      { program := List.replicate Config.programEntries Entry.reset, fixedS := 0, run := .stopped, pacer := none,
        burstCount := 0, endCause := none, sweepNumber := 0, sweep := none, gapPending := false, startLevel }
    tracker :=
      { tags := List.replicate Config.tagCount .free, inFlight := [], lastTag := 31, cursor := none, spacing := none,
        converts := [] }
    trigger :=
      { conditions := List.replicate Config.conditionCount Condition.reset, stage := .openStage, forced := false,
        trigout := false, pulse := none }
    memory := { free := Config.storeCells, history := [], current := none, reservation := 0 }
    capture := { state := .idle, haltCause := .none, quota := 0, nextId := 0, openRecord := none }
    delivery :=
      { queue := [], windowA := Window.reset, windowB := Window.reset, current := .a, position := 0, note := none }
    notices := { queue := [], droppedBefore := 0 }
    counters := Counters.zero
    params := Params.defaults
    manager := { node, requests := [], deferred := .empty, responses := [], resetHold := false }
    intake := { link := Link.reset, lane := none, cycles := 0, turn := 0, forward := [] }
    deliveryPort := { link := Link.reset, lane := none, cycles := 0, turn := 0, passback := [] }
    clock := { tick := 0, phase := 0 }
    lines := { marks := 0, trig0 := false, trig1 := false }
    choices := 0
    pending := [] }

/-- The machine after reset. The note takes the node number from the straps and the start level from its line (R25, R141);
here both are 0 (DESIGN CHOICE, log entry 6). -/
def State.reset : State := State.afterReset 0 false

end Sys2Proof.Machine
end

