-- ==== Sys2Proof/Machine/Flags.lean ====
section
/-! DEFINITION. The codes of the named values (R179), the flag words of notices (R177), the cell layouts of a record (R178). -/

namespace Sys2Proof.Machine

/-- A natural number as one 32-bit word (R177). -/
abbrev word (n : Nat) : Word := BitVec.ofNat 32 n

/-- no 0, yes 1 (R179). -/
def flagWord (b : Bool) : Word := if b then 1 else 0

/-! ## Codes (R179) -/

def Reason.code : Reason → Nat
  | .timeout => 1
  | .unitFault => 2
  | .link => 3
  | .mismatch => 4

def Source.code : Source → Nat
  | .entry i => i
  | .trig0 => 256
  | .trig1 => 257

def Role.code : Role → Nat
  | .off => 0
  | .qualify => 1
  | .fire => 2

def Test.code : Test → Nat
  | .above => 0
  | .below => 1
  | .inside => 2
  | .outside => 3
  | .high => 4
  | .low => 5

def Readiness.code : Readiness → Nat
  | .unknown => 0
  | .ready => 1
  | .spent => 2

def Cause.code : Cause → Nat
  | .condition n => n
  | .force => 8

def TrigoutMode.code : TrigoutMode → Nat
  | .off => 0
  | .pulse => 1
  | .level => 2

def StartMode.code : StartMode → Nat
  | .freeRun => 0
  | .lineStart => 1

def StartEdge.code : StartEdge → Nat
  | .rising => 0
  | .falling => 1

def WindowId.code : WindowId → Nat
  | .a => 0
  | .b => 1

def RunState.code : RunState → Nat
  | .stopped => 0
  | .running => 1
  | .waitingLine => 2
  | .burst => 3
  | .stopping => 4

def EndCause.code : EndCause → Nat
  | .stopRequest => 1
  | .limit => 2
  | .halt => 3

def CaptureState.code : CaptureState → Nat
  | .idle => 0
  | .filling => 1
  | .ready => 2
  | .post => 3
  | .halted => 4

def HaltCause.code : HaltCause → Nat
  | .none => 0
  | .noSpace => 1
  | .rearmNoSpace => 2
  | .rearmQueueFull => 3

def Stage.code : Stage → Nat
  | .openStage => 0
  | .awaitQualifier => 1
  | .qualified _ => 2

def Deferred.code : Deferred → Nat
  | .empty => 0
  | .stopRun _ => 1
  | .resetEngine _ => 2

def LinkState.code : LinkState → Nat
  | .down => 0
  | .aligning => 1
  | .up => 2

def Status.code : Status → Nat
  | .done => 0
  | .busy => 1
  | .badState => 2
  | .badValue => 3
  | .notFound => 4
  | .noSpace => 5
  | .queueFull => 6
  | .unknownRequest => 7
  | .forwardFull => 8
  | .linkDown => 9
  | .superseded => 10

def Notice.code : Notice → Nat
  | .runEnded _ => 1
  | .triggered .. => 2
  | .recordClosed .. => 3
  | .windowDone .. => 4
  | .halted _ => 5
  | .intakeLinkChanged _ => 6

/-! ## Cells of a record (R178) -/

/-- A bit of a cell at its place. -/
def bitAt (place : Nat) (b : Bool) : Word := if b then 1#32 <<< place else 0#32

/-- A sample cell: value or reason code in 15..0, program index in 22..16, markers in 25..23, setting code in 29..26,
MISSING 30, OVER_RANGE 31 (R178). -/
def Sample.cell (x : Sample) : Word :=
  let body : Word :=
    match x.content with
    | .value v overRange => v.setWidth 32 ||| bitAt 31 overRange
    | .missing reason => word reason.code ||| bitAt 30 true
  body ||| (word x.index <<< 16) ||| (x.markers.setWidth 32 <<< 23) ||| (x.setting.setWidth 32 <<< 26)

/-- The cells of a block: its two header cells, then its sample cells (R73, R178). -/
def Block.words (b : Block) : List Word :=
  b.number :: (b.startTime.setWidth 32 ||| bitAt 24 b.afterGap ||| bitAt 25 b.triggerSweep) ::
    b.cells.mapIdx (fun i c => match c with
      | some x => x.cell
      | none => Config.unwrittenCell i)

/-- The four cells of a record header (R178). -/
def RecordHeader.words (h : RecordHeader) : List Word :=
  [ h.id.setWidth 32 ||| (word h.cause.code <<< 16) ||| bitAt 20 h.shortHead ||| bitAt 21 h.headLost |||
      bitAt 22 h.truncated ||| bitAt 23 h.cut ||| (word h.s <<< 24),
    h.triggerSweep,
    word h.preBlocks ||| (word h.postBlocks <<< 8),
    word h.total ]

/-! ## Fields of a notice (R177) -/

/-- The field words of a notice, in order (R177). -/
def Notice.words : Notice → List Word
  | .runEnded cause => [word cause.code]
  | .triggered id number cause shortHead headLost =>
    [id.setWidth 32, number, word cause.code, bitAt 0 shortHead ||| bitAt 1 headLost]
  | .recordClosed id total shortHead headLost truncated cut quota =>
    [id.setWidth 32, word total, bitAt 0 shortHead ||| bitAt 1 headLost ||| bitAt 2 truncated ||| bitAt 3 cut, word quota]
  | .windowDone window tag filled early => [word window.code, tag.setWidth 32, word filled, flagWord early]
  | .halted cause => [word cause.code]
  | .intakeLinkChanged up => [word (if up then LinkState.up.code else LinkState.down.code)]

end Sys2Proof.Machine
end

