-- ==== Sys2Proof/Machine/Operands.lean ====
section
/-! DEFINITION. The arguments of a request: the named values their codes stand for (R179), and the ranges the rules give. -/

namespace Sys2Proof.Machine

/-- The request kinds of the catalogue, by their codes (R179). -/
def kindEcho : Byte := 1
def kindReadStatus : Byte := 2
def kindSetParameter : Byte := 3
def kindGetParameter : Byte := 4
def kindWriteProgramEntry : Byte := 5
def kindReadProgramEntry : Byte := 6
def kindStartRun : Byte := 7
def kindStopRun : Byte := 8
def kindWriteCondition : Byte := 9
def kindReadCondition : Byte := 10
def kindForceTrigger : Byte := 11
def kindArm : Byte := 12
def kindDisarm : Byte := 13
def kindClearHalt : Byte := 14
def kindOpenWindow : Byte := 15
def kindCloseWindow : Byte := 16
def kindDiscardRecord : Byte := 17
def kindReadCounters : Byte := 18
def kindResetEngine : Byte := 19

/-- A kind of the catalogue (R149, R179). -/
def inCatalogue (k : Byte) : Bool := 1 ≤ k.toNat && k.toNat ≤ 19

/-- A two-valued argument: no 0, yes 1, and the other pairs of R179 coded 0 and 1. -/
def argBool (w : Word) : Option Bool :=
  if w = 0 then some false else if w = 1 then some true else none

/-- An unsigned argument within lo..hi. -/
def argIn (lo hi : Nat) (w : Word) : Option Nat :=
  if lo ≤ w.toNat ∧ w.toNat ≤ hi then some w.toNat else none

/-- A signed argument within −32768..32767, carried in two's complement (R177). -/
def argSigned (w : Word) : Option (BitVec 16) :=
  if -32768 ≤ w.toInt ∧ w.toInt ≤ 32767 then some (w.setWidth 16) else none

/-- A window argument (R115, R122). -/
def argWindow (w : Word) : Option WindowId :=
  if w = 0 then some .a else if w = 1 then some .b else none

/-- A condition role (R179). -/
def argRole (w : Word) : Option Role :=
  match w.toNat with
  | 0 => some .off
  | 1 => some .qualify
  | 2 => some .fire
  | _ => none

/-- A condition source: ENTRY(i) is i, 0..127; LINE(TRIG0) 256; LINE(TRIG1) 257 (R179). -/
def argSource (w : Word) : Option Source :=
  if w.toNat ≤ 127 then some (.entry w.toNat)
  else if w.toNat = 256 then some .trig0
  else if w.toNat = 257 then some .trig1
  else none

/-- A condition test (R179). -/
def argTest (w : Word) : Option Test :=
  match w.toNat with
  | 0 => some .above
  | 1 => some .below
  | 2 => some .inside
  | 3 => some .outside
  | 4 => some .high
  | 5 => some .low
  | _ => none

/-- A test that belongs to a line source (R48). -/
def Test.forLine : Test → Bool
  | .high | .low => true
  | .above | .below | .inside | .outside => false

/-- A source that is a line (R48). -/
def Source.isLine : Source → Bool
  | .entry _ => false
  | .trig0 | .trig1 => true

/-- The arguments of WRITE_PROGRAM_ENTRY after the index (R4). -/
def argEntry (unit channel setting store : Word) : Option Entry :=
  match argIn 0 15 unit, argIn 0 15 channel, argIn 0 15 setting, argBool store with
  | some u, some c, some k, some st => some ⟨BitVec.ofNat 4 u, BitVec.ofNat 4 c, BitVec.ofNat 4 k, st⟩
  | _, _, _, _ => none

/-- The condition WRITE_CONDITION's arguments give, its runtime state UNKNOWN, 0 and out of the fire record; none when
an argument is out of range, the test does not belong to the source kind, the source entry is at or above
PROGRAM_LENGTH, or low is greater than high (R64). -/
def argCondition (programLength : Nat) (role source test threshold low high hysteresis qualifyCount : Word) :
    Option Condition :=
  match argRole role, argSource source, argTest test, argSigned threshold, argSigned low, argSigned high,
      argIn 0 4095 hysteresis, argIn 1 16 qualifyCount with
  | some r, some src, some t, some th, some lo, some hi, some h, some q =>
    let entryOk := match src with
      | .entry i => decide (i < programLength)
      | .trig0 | .trig1 => true
    if t.forLine = src.isLine ∧ entryOk = true ∧ lo.toInt ≤ hi.toInt then
      some { role := r, source := src, test := t, threshold := th, low := lo, high := hi, hysteresis := h,
             qualifyCount := q, readiness := .unknown, runCount := 0, fired := none }
    else none
  | _, _, _, _, _, _, _, _ => none

/-! ## Parameters (R155) -/

/-- The sixteen parameters (R155). -/
inductive Param where
  | sweepPeriod
  | startMode
  | startEdge
  | burstSweeps
  | sweepLimit
  | programLength
  | entrySpacing
  | inflightLimit
  | replyTimeout
  | pretriggerSweeps
  | posttriggerSweeps
  | earlyTrigger
  | captureQuota
  | quotaRepeat
  | qualifyWindow
  | trigoutMode
  deriving DecidableEq, Repr

/-- The parameter a code stands for (R179). -/
def argParam (w : Word) : Option Param :=
  match w.toNat with
  | 1 => some .sweepPeriod
  | 2 => some .startMode
  | 3 => some .startEdge
  | 4 => some .burstSweeps
  | 5 => some .sweepLimit
  | 6 => some .programLength
  | 7 => some .entrySpacing
  | 8 => some .inflightLimit
  | 9 => some .replyTimeout
  | 10 => some .pretriggerSweeps
  | 11 => some .posttriggerSweeps
  | 12 => some .earlyTrigger
  | 13 => some .captureQuota
  | 14 => some .quotaRepeat
  | 15 => some .qualifyWindow
  | 16 => some .trigoutMode
  | _ => none

/-- The value in force of a parameter, a named value as its code (R156, R179). -/
def Params.get (ps : Params) : Param → Nat
  | .sweepPeriod => ps.sweepPeriod
  | .startMode => ps.startMode.code
  | .startEdge => ps.startEdge.code
  | .burstSweeps => ps.burstSweeps
  | .sweepLimit => ps.sweepLimit
  | .programLength => ps.programLength
  | .entrySpacing => ps.entrySpacing
  | .inflightLimit => ps.inflightLimit
  | .replyTimeout => ps.replyTimeout
  | .pretriggerSweeps => ps.pretriggerSweeps
  | .posttriggerSweeps => ps.posttriggerSweeps
  | .earlyTrigger => if ps.earlyAccept then 1 else 0
  | .captureQuota => ps.captureQuota
  | .quotaRepeat => if ps.quotaRepeat then 1 else 0
  | .qualifyWindow => ps.qualifyWindow
  | .trigoutMode => ps.trigoutMode.code

/-- The parameter set with a value written; none when the value is outside the parameter's range (R155). -/
def Params.set (ps : Params) (p : Param) (v : Word) : Option Params :=
  match p with
  | .sweepPeriod => (argIn 2 16777215 v).map (fun n => { ps with sweepPeriod := n })
  | .startMode => (argBool v).map (fun b => { ps with startMode := if b then .lineStart else .freeRun })
  | .startEdge => (argBool v).map (fun b => { ps with startEdge := if b then .falling else .rising })
  | .burstSweeps => (argIn 1 255 v).map (fun n => { ps with burstSweeps := n })
  | .sweepLimit => (argIn 0 65535 v).map (fun n => { ps with sweepLimit := n })
  | .programLength => (argIn 1 128 v).map (fun n => { ps with programLength := n })
  | .entrySpacing => (argIn 0 255 v).map (fun n => { ps with entrySpacing := n })
  | .inflightLimit => (argIn 1 8 v).map (fun n => { ps with inflightLimit := n })
  | .replyTimeout => (argIn 1 1023 v).map (fun n => { ps with replyTimeout := n })
  | .pretriggerSweeps => (argIn 0 255 v).map (fun n => { ps with pretriggerSweeps := n })
  | .posttriggerSweeps => (argIn 1 65535 v).map (fun n => { ps with posttriggerSweeps := n })
  | .earlyTrigger => (argBool v).map (fun b => { ps with earlyAccept := b })
  | .captureQuota => (argIn 1 255 v).map (fun n => { ps with captureQuota := n })
  | .quotaRepeat => (argBool v).map (fun b => { ps with quotaRepeat := b })
  | .qualifyWindow => (argIn 1 255 v).map (fun n => { ps with qualifyWindow := n })
  | .trigoutMode =>
    (argIn 0 2 v).map (fun n =>
      { ps with trigoutMode := match n with
                  | 0 => .off
                  | 1 => .pulse
                  | _ => .level })

/-- The state a parameter may be written in: any, run STOPPED, or capture IDLE (R155). -/
def Param.writable (p : Param) (run : RunState) (capture : CaptureState) : Bool :=
  match p with
  | .sweepPeriod | .entrySpacing | .quotaRepeat | .trigoutMode => true
  | .startMode | .startEdge | .burstSweeps | .sweepLimit | .programLength | .inflightLimit | .replyTimeout =>
    decide (run = .stopped)
  | .pretriggerSweeps | .posttriggerSweeps | .earlyTrigger | .captureQuota | .qualifyWindow => decide (capture = .idle)

end Sys2Proof.Machine
end

