-- ==== Sys2Proof/Machine/Layouts.lean ====
section
/-! DEFINITION. The bytes of every frame the engine sends, and how long a transmission takes (R164, R168, R177). -/

namespace Sys2Proof.Machine

/-- The CONVERT frame: tag, unit and channel, setting code; destination 15 (R177). -/
def ConvertFrame.raw (node : BitVec 4) (f : ConvertFrame) : RawFrame :=
  buildFrame kindConvert (nodeByte 15 node) [BitVec.ofNat 8 f.tag, f.unit ++ f.channel, f.setting.setWidth 8]

/-- The RESPONSE frame (R153, R177). -/
def Response.raw (node : BitVec 4) (r : Response) : RawFrame :=
  buildFrame kindResponse (nodeByte r.destination node)
    (r.tag :: r.kind :: BitVec.ofNat 8 r.status.code :: BitVec.ofNat 8 r.payload.length :: r.payload.flatMap bytes32)

/-- The NOTICE frame (R134, R177). -/
def Notice.raw (node : BitVec 4) (n : Notice) (droppedBefore : Nat) : RawFrame :=
  buildFrame kindNotice (nodeByte 15 node)
    (BitVec.ofNat 8 n.code :: BitVec.ofNat 8 droppedBefore :: n.words.flatMap bytes32)

/-- The flag byte of a RECORD frame: FIRST bit 0, LAST bit 1, ABANDONED bit 2 (R177). -/
def RecordFrame.flagByte (f : RecordFrame) : Byte :=
  (bitAt 0 f.first ||| bitAt 1 f.last ||| bitAt 2 f.abandoned).setWidth 8

/-- The RECORD frame (R117, R177). -/
def RecordFrame.raw (node : BitVec 4) (f : RecordFrame) : RawFrame :=
  buildFrame kindRecord (nodeByte 15 node)
    (BitVec.ofNat 8 f.window.code :: f.windowTag :: f.flagByte :: BitVec.ofNat 8 f.payload.length ::
      (bytes16 (BitVec.ofNat 16 f.windowOffset) ++ bytes16 f.recordId ++ bytes16 (BitVec.ofNat 16 f.recordOffset) ++
        f.payload.flatMap bytes32))

/-- The frame on the intake outbound lane as it is sent; a forwarded request goes unchanged (R146, R177). -/
def UpFrame.raw (node : BitVec 4) : UpFrame → RawFrame
  | .convert f => f.raw node
  | .forward r => requestFrame r

/-- The frame on the delivery outbound lane as it is sent; a passback frame goes with every byte as it arrived (R170, R177). -/
def DownFrame.raw (node : BitVec 4) : DownFrame → RawFrame
  | .response r => r.raw node
  | .passback f => f
  | .notice n dropped => n.raw node dropped
  | .record f => f.raw node

/-- Payload bytes of a frame on the intake outbound lane (R177). -/
def UpFrame.payloadBytes : UpFrame → Nat
  | .convert _ => 3
  | .forward r => 3 + 4 * r.args.length

/-- Payload bytes of a frame on the delivery outbound lane (R177). -/
def DownFrame.payloadBytes : DownFrame → Nat
  | .response r => 4 + 4 * r.payload.length
  | .passback f => f.payload.length
  | .notice n _ => 2 + 4 * n.words.length
  | .record f => 10 + 4 * f.payload.length

/-- REFCLK cycles a frame with this payload takes from start delimiter to last check byte: 0.08 ticks a byte (R168). -/
def sendCycles (payloadBytes : Nat) : Nat := Config.cyclesPerByte * (envelopeBytes + payloadBytes)

end Sys2Proof.Machine
end

