-- ==== Sys2Proof/Machine/Ops.lean ====
section
/-! DEFINITION. The named operations the blocks share: counters, notices, responses, the Request Queue, the tables. -/

namespace Sys2Proof.Machine

/-- A counter raised by k events: it stops at 65535 (R138). -/
def satAdd (c : Counter) (k : Nat) : Counter := BitVec.ofNat 16 (min 65535 (c.toNat + k))

/-- A block posts a notice: it joins the queue when there is room (R131); else it is dropped, and LOST_NOTICES and the
dropped-before count rise, each to its own limit (R132). -/
def postNotice (n : Notice) (s : State) : State :=
  if s.notices.queue.length < Config.noticePlaces then
    { s with notices.queue := s.notices.queue ++ [n] }
  else
    { s with
      notices.droppedBefore := min 255 (s.notices.droppedBefore + 1)
      counters.lostNotices := satAdd s.counters.lostNotices 1 }

/-- The response of a request with this status and payload, sent to the request's source (R153, R154). -/
def responseTo (r : Request) (status : Status) (payload : List Word) : Response :=
  { destination := r.source, tag := r.tag, kind := r.kind, status, payload }

/-- A response joins the end of the Response Queue (R153). -/
def respond (r : Request) (status : Status) (payload : List Word) (s : State) : State :=
  { s with manager.responses := s.manager.responses ++ [responseTo r status payload] }

/-- The request in the deferred slot counts 1 (R144). -/
def Deferred.count : Deferred → Nat
  | .empty => 0
  | .stopRun _ | .resetEngine _ => 1

/-- The total: queued requests, the deferred request, responses waiting (R144). -/
def ManagementController.total (m : ManagementController) : Nat :=
  m.requests.length + m.deferred.count + m.responses.length

/-- The Request Queue does not execute while a RESET_ENGINE is in the deferred slot (R149). -/
def ManagementController.held (m : ManagementController) : Bool :=
  match m.deferred with
  | .resetEngine _ => true
  | .empty | .stopRun _ => false

/-- The request that executes next, if one may (R149). -/
def ManagementController.front (m : ManagementController) : Option Request :=
  if m.held then none else m.requests.head?

/-- The front request leaves the Request Queue (R148, R149). -/
def popRequest (s : State) : State := { s with manager.requests := s.manager.requests.tail }

/-- The front request executes if it is of this kind: it leaves the queue and `body` acts on it. With no such request in
front the event does not occur and nothing changes (R149; DESIGN CHOICE, log entry 7). -/
def executeFront (kind : Byte) (body : Request → State → State) (s : State) : State :=
  match s.manager.front with
  | some r => if r.kind = kind then body r (popRequest s) else s
  | none => s

/-- The levels the event brings are the levels of the sampled lines (log entry 5). -/
def seeLines (lines : Lines) (s : State) : State := { s with lines }

/-- The cost of a sweep block under the fixed S (R3). -/
def State.cost (s : State) : Nat := Config.blockHeaderCells + s.sweeper.fixedS

/-- The cells a block takes (R73). -/
def Block.cost (b : Block) : Nat := Config.blockHeaderCells + b.cells.length

/-- The cells a list of blocks takes. -/
def blocksCost (bs : List Block) : Nat := (bs.map Block.cost).sum

/-- A program entry; every index in use has one (R1). -/
def State.entry (s : State) (i : Nat) : Entry := s.sweeper.program.getD i Entry.reset

/-- The number of STORE entries among the first n (R3). -/
def storeCount (program : List Entry) (n : Nat) : Nat := ((program.take n).filter (·.store)).length

/-- The state of a tag; every tag 0..31 has one (R26). -/
def State.tagState (s : State) (t : Nat) : TagState := s.tracker.tags.getD t .free

/-- A tag gets a state (R26). -/
def setTag (t : Nat) (x : TagState) (s : State) : State := { s with tracker.tags := s.tracker.tags.set t x }

end Sys2Proof.Machine
end

