-- ==== Sys2Proof/Machine/Trigger.lean ====
section
/-! DEFINITION. The Trigger Unit: tests, readiness and run count, the fire record, the stage, the verdict, TRIGOUT (03). -/

namespace Sys2Proof.Machine

/-- A computed bound held to the signed range (R51). -/
def heldBound (x : Int) : Int := max (-32768) (min 32767 x)

/-- A value satisfies an entry-sourced condition's test (R51); a line test is never met by a value. -/
def Condition.satisfiedBy (c : Condition) (v : Int) : Bool :=
  match c.test with
  | .above => decide (c.threshold.toInt < v)
  | .below => decide (v < c.threshold.toInt)
  | .inside => decide (c.low.toInt ≤ v ∧ v ≤ c.high.toInt)
  | .outside => decide (v < c.low.toInt ∨ c.high.toInt < v)
  | .high | .low => false

/-- A value is re-ready for an entry-sourced condition (R51). -/
def Condition.rereadyBy (c : Condition) (v : Int) : Bool :=
  let h : Int := c.hysteresis
  match c.test with
  | .above => decide (v ≤ heldBound (c.threshold.toInt - h))
  | .below => decide (heldBound (c.threshold.toInt + h) ≤ v)
  | .inside => decide (v < heldBound (c.low.toInt - h) ∨ heldBound (c.high.toInt + h) < v)
  | .outside => decide (heldBound (c.low.toInt + h) ≤ v ∧ v ≤ heldBound (c.high.toInt - h))
  | .high | .low => false

/-- A level satisfies a line-sourced condition's test (R52). -/
def Condition.satisfiedByLevel (c : Condition) (level : Bool) : Bool :=
  match c.test with
  | .high => level
  | .low => !level
  | .above | .below | .inside | .outside => false

/-- A level is re-ready for a line-sourced condition (R52). -/
def Condition.rereadyByLevel (c : Condition) (level : Bool) : Bool :=
  match c.test with
  | .high => !level
  | .low => level
  | .above | .below | .inside | .outside => false

/-- One evaluation: readiness, run count and fire (R53). -/
def Condition.evaluate (c : Condition) (satisfied reready : Bool) : Condition :=
  match c.readiness with
  | .unknown =>
    if satisfied then { c with readiness := .spent, runCount := 0 } else { c with readiness := .ready, runCount := 0 }
  | .ready =>
    if satisfied then
      if c.runCount + 1 = c.qualifyCount then { c with readiness := .spent, runCount := 0, fired := some c.role }
      else { c with runCount := c.runCount + 1 }
    else { c with runCount := 0 }
  | .spent => if reready then { c with readiness := .ready, runCount := 0 } else { c with runCount := 0 }

/-- A condition handed a sample of its source entry: a value is evaluated, a MISSING sample breaks the run (R50, R54). -/
def Condition.onContent (c : Condition) : Content → Condition
  | .value v _ => c.evaluate (c.satisfiedBy v.toInt) (c.rereadyBy v.toInt)
  | .missing _ => { c with runCount := 0 }

/-- A condition that is not OFF and names this entry sees its sample (R42 step 2, R50). -/
def Condition.onEntry (i : Nat) (content : Content) (c : Condition) : Condition :=
  if c.role ≠ .off ∧ c.source = .entry i then c.onContent content else c

/-- A condition that is not OFF and names a line sees the level sampled at the sweep start (R50, R52). -/
def Condition.onLines (lines : Lines) (c : Condition) : Condition :=
  if c.role = .off then c
  else match c.source with
    | .entry _ => c
    | .trig0 => c.evaluate (c.satisfiedByLevel lines.trig0) (c.rereadyByLevel lines.trig0)
    | .trig1 => c.evaluate (c.satisfiedByLevel lines.trig1) (c.rereadyByLevel lines.trig1)

/-- Every condition sees what `f` shows it. -/
def mapConditions (f : Condition → Condition) (s : State) : State :=
  { s with trigger.conditions := s.trigger.conditions.map f }

/-- The sample of an entry is handed to the Trigger Unit (R42 step 2). -/
def triggerSample (i : Nat) (content : Content) (s : State) : State := mapConditions (Condition.onEntry i content) s

/-- The condition leaves the fire record (R55). -/
def Condition.unfired (c : Condition) : Condition := { c with fired := none }

/-- The condition is UNKNOWN with run count 0 (R66, R69). -/
def Condition.unknown (c : Condition) : Condition := { c with readiness := .unknown, runCount := 0 }

/-- At a sweep start the fire record is emptied, then the line sources are sampled (R55, R10 step 6). -/
def triggerSweepStart (s : State) : State :=
  mapConditions (fun c => c.unfired.onLines s.lines) s

/-- The stage set afresh (R56). -/
def freshStage (conditions : List Condition) : Stage :=
  if conditions.any (fun c => c.role = .qualify) then .awaitQualifier else .openStage

/-- The Trigger Unit sets its stage afresh (R56). -/
def setStageAfresh (s : State) : State := { s with trigger.stage := freshStage s.trigger.conditions }

/-- The lowest-numbered condition in the fire record with this role, counted from n (R58). -/
def firstFired (role : Role) : List Condition → Nat → Option Nat
  | [], _ => none
  | c :: cs, n => if c.fired = some role then some n else firstFired role cs (n + 1)

/-- In this stage a FIRE condition's fire can trigger (R58 case 2). -/
def Stage.admitsFire : Stage → Bool
  | .openStage | .qualified _ => true
  | .awaitQualifier => false

/-- The verdict of the sweep that completes: the first case of R58 that holds. -/
def TriggerUnit.verdict (t : TriggerUnit) : Verdict :=
  if t.forced then .trigger .force
  else match if t.stage.admitsFire then firstFired .fire t.conditions 0 else none with
    | some n => .trigger (.condition n)
    | none => if (firstFired .qualify t.conditions 0).isSome then .qualify else .none

/-- A forced verdict clears the forced flag, taken or not (R58 case 1, R60). -/
def clearForced (s : State) : State := { s with trigger.forced := false }

/-- The stage after a verdict that is not taken, capture FILLING or READY (R59): QUALIFY opens or restarts the window,
NONE counts it down, a TRIGGER not taken leaves it. -/
def stageAfter (window : Nat) (v : Verdict) (stage : Stage) : Stage :=
  match v with
  | .trigger _ => stage
  | .qualify => .qualified window
  | .none =>
    match stage with
    | .qualified w => if 0 < w - 1 then .qualified (w - 1) else .awaitQualifier
    | .openStage => .openStage
    | .awaitQualifier => .awaitQualifier

/-- The Trigger Unit changes its stage by a verdict that is not taken, capture FILLING or READY (R59, R60). -/
def stageByVerdict (v : Verdict) (s : State) : State :=
  { s with trigger.stage := stageAfter s.params.qualifyWindow v s.trigger.stage }

/-- TRIGOUT acts when capture takes a trigger and so enters POST (R60, R67). -/
def trigoutTaken (s : State) : State :=
  match s.params.trigoutMode with
  | .off => s
  | .pulse => { s with trigger.trigout := true, trigger.pulse := some Config.pulseTicks }
  | .level => { s with trigger.trigout := true }

/-- TRIGOUT when capture leaves POST: in LEVEL it goes low (R67). -/
def trigoutPostLeft (s : State) : State :=
  match s.params.trigoutMode with
  | .level => { s with trigger.trigout := false }
  | .off | .pulse => s

/-- The line and pulse timer cancelled, the line driven to a level (R68, R69). -/
def driveTrigout (level : Bool) (s : State) : State :=
  { s with trigger.trigout := level, trigger.pulse := none }

/-- A write of TRIGOUT_MODE takes effect at once (R68): `old` is the mode that was in force. -/
def trigoutModeWritten (old : TrigoutMode) (s : State) : State :=
  match s.params.trigoutMode with
  | .off => driveTrigout false s
  | .level => driveTrigout (decide (s.capture.state = .post)) s
  | .pulse => if old = .pulse then s else driveTrigout false s

end Sys2Proof.Machine
end

