-- ==== Sys2Proof/Machine/Memory.lean ====
section
/-! DEFINITION. Capture Memory: allocation, space drops, placing samples, trimming, releases (04). -/

namespace Sys2Proof.Machine

/-- The block of a sweep as allocated: its header fields, and S cells that hold no sample yet (R73, R75). -/
def Block.allocated (r : SweepRecord) (s : Nat) : Block :=
  { number := r.number, startTime := r.startTime.setWidth 24, afterGap := r.afterGap, triggerSweep := false,
    cells := List.replicate s none }

/-- The block allocated, its cells taken from free (R75). -/
def allocateBlock (r : SweepRecord) (s : State) : State :=
  { s with
    memory.free := s.memory.free - s.cost
    memory.current := some (Block.allocated r s.sweeper.fixedS) }

/-- The sweep is unstored for want of space (R76, R77). -/
def countUnstored (s : State) : State := { s with counters.unstoredSweeps := satAdd s.counters.unstoredSweeps 1 }

/-- What dropping the oldest blocks leaves while the free count is below a cost: the ring, the free count, the drops
made (R76 step 1). -/
def dropWhileShort (cost : Nat) : List Block → Nat → List Block × Nat × Nat
  | [], free => ([], free, 0)
  | b :: bs, free =>
    if free < cost then
      let r := dropWhileShort cost bs (free + b.cost)
      (r.1, r.2.1, r.2.2 + 1)
    else (b :: bs, free, 0)

/-- FILLING or READY, as the history count says (R93). -/
def armedState (s : State) : CaptureState :=
  if s.memory.history.length = s.params.pretriggerSweeps then .ready else .filling

/-- The Capture Controller sets its state from the history count (R93). -/
def setArmedState (s : State) : State := { s with capture.state := armedState s }

/-- A block request in FILLING or READY drops the oldest history blocks while it is short, counts them, and, if any was
dropped, sets FILLING or READY from the new count (R76). -/
def dropForSpace (s : State) : State :=
  let r := dropWhileShort s.cost s.memory.history s.memory.free
  let s1 := { s with
    memory.history := r.1
    memory.free := r.2.1
    counters.historySpaceDrops := satAdd s.counters.historySpaceDrops r.2.2 }
  if r.2.2 = 0 then s1 else setArmedState s1

/-- The place of a STORE entry's cell: the number of STORE entries with a lower index (R73). -/
def State.cellPlace (s : State) (i : Nat) : Nat := storeCount s.sweeper.program i

/-- The sample of a STORE entry goes into its cell if the sweep is stored and is dropped otherwise; a MONITOR entry's
takes no cell (R42 step 1, R79). -/
def storeSample (x : Sample) (s : State) : State :=
  if (s.entry x.index).store then
    match s.memory.current with
    | some b => { s with memory.current := some { b with cells := b.cells.set (s.cellPlace x.index) (some x) } }
    | none => s
  else s

/-- The disposition "discard": the current block's cells are freed (R80, R84). -/
def discardBlock (s : State) : State :=
  match s.memory.current with
  | some b => { s with memory.current := none, memory.free := s.memory.free + b.cost }
  | none => s

/-- The ring trimmed after an append: if it holds more than PRETRIGGER_SWEEPS blocks the oldest is dropped and its cells
are freed (R81). -/
def trimHistory (s : State) : State :=
  match s.memory.history with
  | b :: bs =>
    if s.params.pretriggerSweeps < (b :: bs).length then
      { s with memory.history := bs, memory.free := s.memory.free + b.cost }
    else s
  | [] => s

/-- The disposition "append to history" (R80, R81), and the state set from the history count (R93). -/
def historyAppend (s : State) : State :=
  let s1 := match s.memory.current with
    | some b => trimHistory { s with memory.history := s.memory.history ++ [b], memory.current := none }
    | none => s
  setArmedState s1

/-- Every history block is dropped and its cells freed; no counter is raised (R81). -/
def dropHistory (s : State) : State :=
  { s with memory.history := [], memory.free := s.memory.free + blocksCost s.memory.history }

/-- The header reservation is claimed from free (R82). -/
def takeReservation (s : State) : State :=
  { s with memory.free := s.memory.free - Config.headerCells, memory.reservation := Config.headerCells }

/-- The header reservation is released, its cells freed (R82). -/
def freeReservation (s : State) : State :=
  { s with memory.free := s.memory.free + s.memory.reservation, memory.reservation := 0 }

/-- Cells are released to free (R84). -/
def releaseCells (n : Nat) (s : State) : State := { s with memory.free := s.memory.free + n }

end Sys2Proof.Machine
end

