-- ==== Sys2Proof/Machine/Capture.lean ====
section
/-! DEFINITION. The Capture Controller: what a completed sweep becomes, opening, closing, rearming, halting (05), with the
halt stop demand it places on the Sweep Controller (R23). -/

namespace Sys2Proof.Machine

/-- The pacer is cancelled (R6). -/
def cancelPacer (s : State) : State := { s with sweeper.pacer := none }

/-- The run goes STOPPED with this end cause recorded, and RUN_ENDED is posted (R20). -/
def endRun (cause : EndCause) (s : State) : State :=
  postNotice (.runEnded cause) { s with sweeper.run := .stopped, sweeper.pacer := none, sweeper.endCause := some cause }

/-- The run goes STOPPING with this end cause recorded; the pacer is cancelled (R6, R20). -/
def beginStopping (cause : EndCause) (s : State) : State :=
  { s with sweeper.run := .stopping, sweeper.pacer := none, sweeper.endCause := some cause }

/-- The halt stop demand (R23). The run end it reports finds capture HALTED and does nothing (R108).
Capture never halts in WAITING_LINE; that row is STOP_RUN's, which the demand acts like (R21; DEDUCED, log entry 9). -/
def haltStopDemand (s : State) : State :=
  match s.sweeper.run with
  | .stopped | .stopping => s
  | .waitingLine => endRun .halt s
  | .running | .burst => if s.sweeper.sweep.isSome then beginStopping .halt s else endRun .halt s

/-- Capture enters HALTED (R104). -/
def enterHalted (cause : HaltCause) (s : State) : State :=
  haltStopDemand (postNotice (.halted cause) { s with capture.state := .halted, capture.haltCause := cause })

/-- Capture arms or rearms: reservation, stage afresh, FILLING or READY (R90, R101). -/
def armNow (s : State) : State := setArmedState (setStageAfresh (takeReservation s))

/-- The rearm after a close, checked in order (R101, R102). -/
def rearm (s : State) : State :=
  if s.memory.free < Config.headerCells then enterHalted .rearmNoSpace s
  else if Config.recordPlaces ≤ s.delivery.queue.length then enterHalted .rearmQueueFull s
  else armNow s

/-- The quota path after a normal close or a CUT close at run end (R100). -/
def quotaPath (s : State) : State :=
  if 0 < s.capture.quota then rearm s
  else if s.params.quotaRepeat then rearm { s with capture.quota := s.params.captureQuota }
  else { s with capture.state := .idle }

/-- The post-trigger blocks stored: POSTTRIGGER_SWEEPS minus the count remaining (R98). -/
def OpenRecord.postStored (r : OpenRecord) (posttrigger : Nat) : Nat := posttrigger - r.postRemaining

/-- The header of the record as it closes, its total cells as R98 computes them (R74, R98). -/
def OpenRecord.header (r : OpenRecord) (posttrigger : Nat) (truncated cut : Bool) : RecordHeader :=
  let post := r.postStored posttrigger
  { id := r.id, cause := r.cause, shortHead := r.shortHead, headLost := r.headLost, truncated, cut, s := r.s,
    triggerSweep := r.triggerSweep, preBlocks := r.preBlocks, postBlocks := post,
    total := Config.headerCells +
      (r.preBlocks + (if r.headLost then 0 else 1) + post) * (Config.blockHeaderCells + r.s) }

/-- The closed record: its header's cells, then its blocks' (R74, R117). -/
def OpenRecord.close (r : OpenRecord) (posttrigger : Nat) (truncated cut : Bool) : QueuedRecord :=
  let h := r.header posttrigger truncated cut
  { header := h, cells := h.words ++ r.blocks.flatMap Block.words, discarded := false }

/-- The close steps of R98, however the record closes: a CUT close leaves the quota counter. The next capture state is
set by the caller, as R98 step 5 says by way of closing. -/
def closeRecord (truncated cut : Bool) (s : State) : State :=
  match s.capture.openRecord with
  | none => s
  | some r =>
    let q := r.close s.params.posttriggerSweeps truncated cut
    let quota := if cut then s.capture.quota else s.capture.quota - 1
    let s1 := { s with
      delivery.queue := s.delivery.queue ++ [q]
      capture.openRecord := none
      capture.quota := quota }
    trigoutPostLeft
      (postNotice (.recordClosed r.id q.header.total r.shortHead r.headLost truncated cut quota) s1)

/-- The normal close, and the quota path (R98, R100). -/
def closeNormally (s : State) : State := quotaPath (closeRecord false false s)

/-- The close with TRUNCATED at a sweep start short of space in POST, and the halt (R77, R103). -/
def closeTruncated (s : State) : State := enterHalted .noSpace (closeRecord true false s)

/-- The report of a run end (R108). -/
def runEndReport (s : State) : State :=
  match s.capture.state with
  | .post => quotaPath (closeRecord false true s)
  | .filling | .ready | .idle | .halted => s

/-- The block marked as the trigger block (R73, R83). -/
def Block.asTrigger (b : Block) : Block := { b with triggerSweep := true }

/-- A record opens by hand-over, capture enters POST, TRIGGERED is posted, the trigger is taken (R83, R95). -/
def openRecord (cause : Cause) (number : Word) (s : State) : State :=
  let record : OpenRecord :=
    { id := s.capture.nextId, cause, shortHead := decide (s.capture.state = .filling),
      headLost := s.memory.current.isNone, s := s.sweeper.fixedS, triggerSweep := number,
      preBlocks := s.memory.history.length, postRemaining := s.params.posttriggerSweeps,
      blocks := s.memory.history ++ (s.memory.current.map Block.asTrigger).toList }
  let s1 := { s with
    capture.nextId := s.capture.nextId + 1
    capture.openRecord := some record
    capture.state := .post
    memory.reservation := 0
    memory.history := []
    memory.current := none }
  trigoutTaken (setStageAfresh
    (postNotice (.triggered record.id number cause record.shortHead record.headLost) s1))

/-- A completion in POST: the block joins the record, the count remaining falls, and at 0 the record closes (R97). -/
def postAppend (s : State) : State :=
  match s.capture.openRecord with
  | none => s
  | some r =>
    let left := r.postRemaining - 1
    let s1 := { s with
      capture.openRecord := some { r with blocks := r.blocks ++ s.memory.current.toList, postRemaining := left }
      memory.current := none }
    if left = 0 then closeNormally s1 else s1

/-- What a completed sweep becomes, by the capture state and the verdict (R92 to R97), with the stage's change (R59, R60). -/
def receiveCompleted (v : Verdict) (number : Word) (s : State) : State :=
  match s.capture.state with
  | .idle | .halted => discardBlock s
  | .post => postAppend s
  | .ready =>
    match v with
    | .trigger cause => openRecord cause number s
    | .qualify | .none => historyAppend (stageByVerdict v s)
  | .filling =>
    match v with
    | .trigger cause => if s.params.earlyAccept then openRecord cause number s else historyAppend (stageByVerdict v s)
    | .qualify | .none => historyAppend (stageByVerdict v s)

/-- The answer to a sweep's request for a block (R75, R76, R77). A sweep cannot start while capture is HALTED (R23). -/
def blockRequest (r : SweepRecord) (s : State) : State :=
  match s.capture.state with
  | .idle | .halted => s
  | .filling | .ready =>
    let s1 := dropForSpace s
    if s.cost ≤ s1.memory.free then allocateBlock r s1 else countUnstored s1
  | .post => if s.cost ≤ s.memory.free then allocateBlock r s else closeTruncated (countUnstored s)

end Sys2Proof.Machine
end

