-- ==== Sys2Proof/Machine/Sweep.lean ====
section
/-! DEFINITION. Sweep completion, and the Request Tracker that leads to it: issue, completion of requests, MISSING(LINK)
(R11, R12, 02), then the sweep start that sets issuing going (R10). -/

namespace Sys2Proof.Machine

/-! ## Sweep completion (R11, R12) -/

/-- The recorded end cause; a run that is STOPPING has one (R20). In a state no run reaches it is STOP_REQUEST
(DESIGN CHOICE, log entry 9). -/
def SweepController.recordedCause (c : SweepController) : EndCause := c.endCause.getD .stopRequest

/-- A deferred STOP_RUN is answered DONE and leaves the slot (R12, R151). -/
def answerDeferredStop (s : State) : State :=
  match s.manager.deferred with
  | .stopRun r => respond r .done [] { s with manager.deferred := .empty }
  | .empty | .resetEngine _ => s

/-- The run state after a sweep completes (R12). -/
def runAfterCompletion (s : State) : State :=
  match s.sweeper.run with
  | .stopping => answerDeferredStop (endRun s.sweeper.recordedCause s)
  | .burst => if s.sweeper.burstCount = 0 then { s with sweeper.run := .waitingLine } else s
  | .running | .waitingLine | .stopped => s

/-- The verdict of the completing sweep reaches the Capture Controller with its block (R11 steps 2 and 3). -/
def judgeSweep (number : Word) (s : State) : State :=
  let v := s.trigger.verdict
  receiveCompleted v number (if v = .trigger .force then clearForced s else s)

/-- A sweep completes (R11): the record is closed, the verdict formed, the block placed, the run state changed, and the
run end reported when the run state's change is what reached STOPPED. -/
def sweepCompletion (r : SweepRecord) (s : State) : State :=
  let s1 := judgeSweep r.number { s with sweeper.sweep := none }
  let s2 := runAfterCompletion s1
  if s1.sweeper.run = .stopping then runEndReport s2 else s2

/-- The completion test: with the cursor at end and the in-flight table empty, the sweep in progress is complete (R28). -/
def checkCompletion (s : State) : State :=
  match s.sweeper.sweep with
  | some r => if s.tracker.cursor = none ∧ s.tracker.inFlight = [] then sweepCompletion r s else s
  | none => s

/-! ## Issuing (R28 to R32) -/

/-- The tag an issue takes: the lowest FREE tag above the last-issued one, else the lowest FREE tag (R31). -/
def chooseTag (tags : List TagState) (last : Nat) : Option Nat :=
  let isFree := fun t => decide (tags[t]? = some TagState.free)
  match (List.range Config.tagCount).find? (fun t => decide (last < t) && isFree t) with
  | some t => some t
  | none => (List.range Config.tagCount).find? isFree

/-- The cursor after the entry it names has had its turn (R28). -/
def nextCursor (programLength i : Nat) : Option Nat := if i + 1 < programLength then some (i + 1) else none

/-- The spacing timer as an issue loads it; a load of 0 leaves it expired (R30). -/
def loadSpacing (n : Nat) : Option Nat := if n = 0 then none else some n

/-- Entry i is issued with tag t (R32). -/
def issueEntry (i t : Nat) (s : State) : State :=
  let e := s.entry i
  { s with
    tracker.tags := s.tracker.tags.set t .inFlight
    tracker.lastTag := t
    tracker.inFlight := s.tracker.inFlight ++
      [{ tag := t, index := i, unit := e.unit, channel := e.channel, setting := e.setting, markers := s.lines.marks,
         issueTime := s.clock.tick, remaining := none }]
    tracker.converts := s.tracker.converts ++ [{ tag := t, unit := e.unit, channel := e.channel, setting := e.setting }]
    tracker.spacing := loadSpacing s.params.entrySpacing
    tracker.cursor := nextCursor s.params.programLength i }

/-- What the issue test finds ready to issue: the cursor's entry and its tag (R29). -/
def readyToIssue (s : State) : Option (Nat × Nat) :=
  if s.intake.link.state = .up ∧ s.tracker.spacing = none ∧ s.tracker.inFlight.length < s.params.inflightLimit then
    match s.tracker.cursor, chooseTag s.tracker.tags s.tracker.lastTag with
    | some i, some t => some (i, t)
    | _, _ => none
  else none

/-- The issue test, repeated while an entry can be issued: with ENTRY_SPACING 0 one event issues several (R29). -/
def issueLoop : Nat → State → State
  | 0, s => s
  | n + 1, s =>
    match readyToIssue s with
    | some (i, t) => issueLoop n (issueEntry i t s)
    | none => s

/-- The issue test of R29; the cursor moves at each issue, so the entries of the program bound the repeats. -/
def issueTest (s : State) : State := issueLoop Config.programEntries s

/-! ## Completion of a request (R42) -/

/-- A sample is handed to Capture Memory and to the Trigger Unit (R42 steps 1 and 2). -/
def handSample (x : Sample) (s : State) : State := triggerSample x.index x.content (storeSample x s)

/-- The sample of an in-flight entry that completes with this content (R42). -/
def InFlight.sample (e : InFlight) (content : Content) : Sample :=
  { content, index := e.index, markers := e.markers, setting := e.setting }

/-- An in-flight entry leaves the table (R42 step 3). -/
def removeEntry (e : InFlight) (s : State) : State := { s with tracker.inFlight := s.tracker.inFlight.erase e }

/-- A request completes with this content and its tag goes to `tagAfter`; then the completion test and the issue test are
made (R42). -/
def completeRequest (e : InFlight) (content : Content) (tagAfter : TagState) (s : State) : State :=
  issueTest (checkCompletion (setTag e.tag tagAfter (removeEntry e (handSample (e.sample content) s))))

/-! ## The intake link not UP (R43, R44) -/

/-- The cursor's entry completes as MISSING(LINK) without issue (R43). -/
def missingLink (i : Nat) (s : State) : State :=
  let s1 := handSample { content := .missing .link, index := i, markers := s.lines.marks, setting := (s.entry i).setting } s
  { s1 with tracker.cursor := nextCursor s1.params.programLength i }

/-- The entry the cursor names and every later one complete as MISSING(LINK) (R43). -/
def linkFill : Nat → State → State
  | 0, s => s
  | n + 1, s =>
    match s.tracker.cursor with
    | some i => linkFill n (missingLink i s)
    | none => s

/-- The rest of the sweep completes as MISSING(LINK), and the completion test is made (R28, R43). -/
def fillRest (s : State) : State := checkCompletion (linkFill Config.programEntries s)

/-- The in-flight entry of a withdrawn CONVERT frame completes as MISSING(LINK) and its tag becomes FREE (R44). -/
def withdrawEntry (s : State) (f : ConvertFrame) : State :=
  match s.tracker.inFlight.find? (fun e => e.tag == f.tag) with
  | some e => setTag e.tag .free (removeEntry e (handSample (e.sample (.missing .link)) s))
  | none => s

/-- Every queued CONVERT frame is withdrawn, oldest issue first (R44). -/
def withdrawConverts (s : State) : State :=
  let s1 := s.tracker.converts.foldl withdrawEntry s
  { s1 with tracker.converts := [] }

/-! ## Sweep start (R10) -/

/-- Issuing is set going: by issue with the link UP, else as MISSING(LINK) (R10 step 8, R28, R43). -/
def beginIssuing (s : State) : State :=
  let s1 := { s with tracker.cursor := some 0, tracker.spacing := none }
  if s1.intake.link.state = .up then issueTest s1 else fillRest s1

/-- The sweep limit at a sweep start (R19). -/
def applyLimit (s : State) : State :=
  if s.params.sweepLimit ≠ 0 ∧ s.sweeper.sweepNumber.toNat = s.params.sweepLimit then
    match s.sweeper.run with
    | .running | .burst => beginStopping .limit s
    | .stopping | .stopped | .waitingLine => cancelPacer s
  else s

/-- The record of the sweep that starts now (R10 steps 1 to 3). -/
def State.startingSweep (s : State) : SweepRecord :=
  { number := s.sweeper.sweepNumber + 1, startTime := s.clock.tick, afterGap := s.sweeper.gapPending }

/-- The Sweep Controller numbers and stamps the sweep and marks it in progress (R10 steps 1 to 4). -/
def markStarted (s : State) : State :=
  { s with
    sweeper.sweepNumber := s.sweeper.sweepNumber + 1
    sweeper.gapPending := false
    sweeper.sweep := some s.startingSweep }

/-- A sweep starts (R10). -/
def sweepStart (s : State) : State :=
  beginIssuing (applyLimit (triggerSweepStart (blockRequest s.startingSweep (markStarted s))))

end Sys2Proof.Machine
end

