-- ==== Sys2Proof/Machine/Delivery.lean ====
section
/-! DEFINITION. The Delivery Unit: windows, the offer, building and ending record frames, discards (06). -/

namespace Sys2Proof.Machine

/-- The other window (R121). -/
def WindowId.other : WindowId → WindowId
  | .a => .b
  | .b => .a

/-- The fields of a window (R114). -/
def DeliveryUnit.window (d : DeliveryUnit) : WindowId → Window
  | .a => d.windowA
  | .b => d.windowB

/-- The fields of a window replaced. -/
def DeliveryUnit.setWindow (d : DeliveryUnit) (w : WindowId) (x : Window) : DeliveryUnit :=
  match w with
  | .a => { d with windowA := x }
  | .b => { d with windowB := x }

/-- A window's fields replaced in the machine. -/
def putWindow (w : WindowId) (x : Window) (s : State) : State := { s with delivery := s.delivery.setWindow w x }

/-- The record frame in transmission on the delivery lane, if it is one: the frame under way (06 opening). -/
def State.frameUnderWay (s : State) : Option RecordFrame :=
  match s.deliveryPort.lane with
  | some (.record f) => some f
  | some (.response _) | some (.passback _) | some (.notice _ _) | none => none

/-- The Delivery Unit offers a record frame (R116). -/
def State.offersRecord (s : State) : Bool :=
  s.frameUnderWay.isNone && decide (s.deliveryPort.link.state = .up) &&
    (s.delivery.window s.delivery.current).opened && !(s.delivery.window s.delivery.current).closePending &&
    (!s.delivery.queue.isEmpty || s.delivery.note.isSome)

/-- The frame of the head record as a grant builds it: n is the least of 32, the record cells remaining and the window
cells remaining (R117). -/
def headFrame (d : DeliveryUnit) (q : QueuedRecord) : RecordFrame :=
  let w := d.window d.current
  let n := min Config.framePayload (min q.cells.length (w.size - w.filled))
  { window := d.current, windowTag := w.tag, windowOffset := w.filled, recordId := q.header.id,
    recordOffset := d.position, first := decide (d.position = 0), last := decide (n = q.cells.length),
    abandoned := false, payload := q.cells.take n }

/-- The ABANDONED frame as a grant builds it from the abandonment note (R125). -/
def abandonedFrame (d : DeliveryUnit) (note : AbandonNote) : RecordFrame :=
  let w := d.window d.current
  { window := d.current, windowTag := w.tag, windowOffset := w.filled, recordId := note.id,
    recordOffset := note.position, first := false, last := true, abandoned := true, payload := [] }

/-- The record frame a grant builds now: the ABANDONED frame while its note is present (R116, R117, R125). -/
def DeliveryUnit.nextFrame (d : DeliveryUnit) : Option RecordFrame :=
  match d.note with
  | some note => some (abandonedFrame d note)
  | none => d.queue.head?.map (headFrame d)

/-- A window becomes CLOSED and WINDOW_DONE is posted (R121 steps 1 and 2; R122 for a window that is not current). -/
def finishWindow (w : WindowId) (early : Bool) (s : State) : State :=
  let x := s.delivery.window w
  postNotice (.windowDone w x.tag x.filled early) (putWindow w { x with opened := false, closePending := false } s)

/-- A window completes (R121): CLOSED, WINDOW_DONE, the pointer to the other window. Its closing withdraws a standing
offer, so the downstream turn count returns to 0 (R123, R172). -/
def completeWindow (w : WindowId) (early : Bool) (s : State) : State :=
  let s1 := finishWindow w early s
  { s1 with delivery.current := w.other, deliveryPort.turn := 0 }

/-- The completion tests at the end of a frame into window w (R120). -/
def completionTests (w : WindowId) (last : Bool) (s : State) : State :=
  let x := s.delivery.window w
  if x.filled = x.size ∨ (last = true ∧ x.endAtRecord = true) ∨ x.closePending = true then
    completeWindow w x.closePending s
  else s

/-- The cells of a frame leave the head record, and the record leaves the queue with LAST, or with the abandonment note
when a discard has taken it (R118 steps 2 to 4, R125 steps 2 and 3). -/
def advanceHead (f : RecordFrame) (s : State) : State :=
  let n := f.payload.length
  match s.delivery.queue with
  | q :: rest =>
    if f.last then { s with delivery.queue := rest, delivery.position := 0 }
    else if q.discarded then
      { s with
        delivery.queue := rest
        delivery.position := 0
        delivery.note := some { id := q.header.id, position := s.delivery.position + n } }
    else
      { s with
        delivery.queue := { q with cells := q.cells.drop n } :: rest
        delivery.position := s.delivery.position + n }
  | [] => s

/-- A record frame with payload has ended (R118); the lane is already clear. -/
def payloadFrameEnded (f : RecordFrame) (s : State) : State :=
  let x := s.delivery.window f.window
  let s1 := putWindow f.window { x with filled := x.filled + f.payload.length } s
  completionTests f.window f.last (advanceHead f (releaseCells f.payload.length s1))

/-- An ABANDONED frame has ended: the note is cleared and the window keeps its filled count (R125). -/
def abandonedFrameEnded (f : RecordFrame) (s : State) : State :=
  completionTests f.window true { s with delivery.note := none }

/-- A record frame has ended, at its last byte or at a drop of the delivery link (R118, R125, R127). -/
def recordFrameEnded (f : RecordFrame) (s : State) : State :=
  if f.abandoned then abandonedFrameEnded f s else payloadFrameEnded f s

/-- A head record is started once its first frame has been built (R113). -/
def State.headStarted (s : State) : Bool :=
  decide (0 < s.delivery.position) ||
    (match s.frameUnderWay with
      | some f => !f.abandoned
      | none => false)

/-- A discard of the started head record (R124, R125): with its LAST frame in transmission nothing is done; with another
frame of it in transmission every other cell is freed now and the record leaves at that frame's end; else it leaves at
once and leaves the abandonment note. -/
def discardStartedHead (q : QueuedRecord) (rest : List QueuedRecord) (s : State) : State :=
  match s.frameUnderWay with
  | some f =>
    if f.abandoned then
      releaseCells q.cells.length
        { s with
          delivery.queue := rest
          delivery.position := 0
          delivery.note := some { id := q.header.id, position := s.delivery.position } }
    else if f.last then s
    else
      let n := f.payload.length
      releaseCells (q.cells.length - n)
        { s with delivery.queue := { q with cells := q.cells.take n, discarded := true } :: rest }
  | none =>
    releaseCells q.cells.length
      { s with
        delivery.queue := rest
        delivery.position := 0
        delivery.note := some { id := q.header.id, position := s.delivery.position } }

/-- The first queued record with an id, as what stands before it, itself, and what follows (R124). -/
def splitAtId (id : BitVec 16) : List QueuedRecord → Option (List QueuedRecord × QueuedRecord × List QueuedRecord)
  | [] => none
  | q :: qs =>
    if q.header.id = id then some ([], q, qs)
    else (splitAtId id qs).map (fun r => (q :: r.1, r.2.1, r.2.2))

/-- DISCARD_RECORD of an id in range: what it answers and what it does (R124). -/
def discardById (id : BitVec 16) (s : State) : Status × State :=
  match splitAtId id s.delivery.queue with
  | some (before, q, after) =>
    if before.isEmpty && s.headStarted then (.done, discardStartedHead q after s)
    else (.done, releaseCells q.cells.length { s with delivery.queue := before ++ after })
  | none =>
    match s.capture.openRecord with
    | some r => if r.id = id then (.badState, s) else (.notFound, s)
    | none => (.notFound, s)

end Sys2Proof.Machine
end

