-- ==== Sys2Proof/Machine/Arbiter.lean ====
section
/-! DEFINITION. The two arbiters and the choices they make after an event (R168, R171, R172). -/

namespace Sys2Proof.Machine

/-- The intake outbound lane can start a frame (R168). -/
def State.upLaneFree (s : State) : Bool :=
  decide (s.intake.link.state = .up) && s.intake.lane.isNone && !s.manager.resetHold

/-- The delivery outbound lane can start a frame (R168). -/
def State.downLaneFree (s : State) : Bool :=
  decide (s.deliveryPort.link.state = .up) && s.deliveryPort.lane.isNone && !s.manager.resetHold

/-- A frame starts on the intake outbound lane (R168). -/
def startUp (f : UpFrame) (turn : Nat) (s : State) : State :=
  { s with intake.lane := some f, intake.cycles := sendCycles f.payloadBytes, intake.turn := turn }

/-- A frame starts on the delivery outbound lane (R168). -/
def startDown (f : DownFrame) (turn : Nat) (s : State) : State :=
  { s with
    deliveryPort.lane := some f
    deliveryPort.cycles := sendCycles f.payloadBytes
    deliveryPort.turn := turn }

/-- The upstream arbiter's choice on a free lane (R171). -/
def chooseUp (s : State) : State :=
  match s.intake.forward, s.tracker.converts with
  | r :: forward, c :: converts =>
    if s.intake.turn = Config.upTurns then
      startUp (.forward r) 0 { s with intake.forward := forward }
    else startUp (.convert c) (s.intake.turn + 1) { s with tracker.converts := converts }
  | r :: forward, [] => startUp (.forward r) 0 { s with intake.forward := forward }
  | [], c :: converts => startUp (.convert c) 0 { s with tracker.converts := converts }
  | [], [] => s

/-- The upstream arbiter chooses when its lane can start a frame; with the forward buffer empty its turn count is 0
(R168, R171). -/
def arbitrateUp (s : State) : State :=
  let s1 := if s.intake.forward.isEmpty then { s with intake.turn := 0 } else s
  if s1.upLaneFree then chooseUp s1 else s1

/-- The turn count after a grant to a source other than RECORD (R172). -/
def State.turnAfterOther (s : State) : Nat :=
  if s.offersRecord then s.deliveryPort.turn + 1 else s.deliveryPort.turn

/-- The record source is granted: the frame is built now (R117, R172). -/
def grantRecord (s : State) : State :=
  match s.delivery.nextFrame with
  | some f => startDown (.record f) 0 s
  | none => s

/-- The downstream arbiter's choice on a free lane (R172): the record source when its turn has come, else the first of
RESPONSE, passback, NOTICE, RECORD that is offering. -/
def chooseDown (s : State) : State :=
  if s.offersRecord ∧ s.deliveryPort.turn = Config.downTurns then grantRecord s
  else
    match s.manager.responses with
    | r :: responses => startDown (.response r) s.turnAfterOther { s with manager.responses := responses }
    | [] =>
      match s.deliveryPort.passback with
      | f :: passback => startDown (.passback f) s.turnAfterOther { s with deliveryPort.passback := passback }
      | [] =>
        match s.notices.queue with
        | n :: notices =>
          startDown (.notice n s.notices.droppedBefore) s.turnAfterOther
            { s with notices.queue := notices, notices.droppedBefore := 0 }
        | [] => if s.offersRecord then grantRecord s else s

/-- The downstream arbiter chooses when its lane can start a frame; while no record frame is offered its turn count is 0
(R168, R172). -/
def arbitrateDown (s : State) : State :=
  let s1 := if s.offersRecord then s else { s with deliveryPort.turn := 0 }
  if s1.downLaneFree then chooseDown s1 else s1

/-- What every event ends with: offers that reach an idle lane together are all seen at one choice (R168). -/
def settle (s : State) : State := arbitrateDown (arbitrateUp s)

/-- A meaning's answer: the state after its effects and the arbiters' choices. -/
def finish (s : State) : Result := .next (settle s)

end Sys2Proof.Machine
end

