-- ==== Sys2Proof/Machine/Links.lean ====
section
/-! DEFINITION. Link states and link loss (R163, R173 to R175), and what a port does with a reception (R165, R166). -/

namespace Sys2Proof.Machine

/-- A good frame or good idle group is received (R163). -/
def Link.good (l : Link) : Link :=
  match l.state with
  | .down => l
  | .aligning =>
    if l.alignRun + 1 = Config.alignRunUp then { state := .up, alignRun := l.alignRun + 1, badRun := 0 }
    else { l with alignRun := l.alignRun + 1 }
  | .up => { l with badRun := 0 }

/-- A bad frame or malformed idle group is received (R163). -/
def Link.bad (l : Link) : Link :=
  match l.state with
  | .down => l
  | .aligning => { l with alignRun := 0 }
  | .up =>
    if l.badRun + 1 = Config.badRunDown then { l with state := .down, badRun := l.badRun + 1 }
    else { l with badRun := l.badRun + 1 }

/-- The idle alignment sequence is received: a DOWN link goes ALIGNING (R163). The table has no row for it in ALIGNING
and UP; there the link stays as it is, the alignment run not restarted (DESIGN CHOICE, log entry 16). -/
def Link.align (l : Link) : Link :=
  match l.state with
  | .down => { l with state := .aligning, alignRun := 0 }
  | .aligning | .up => l

/-- Loss of signal (R163). -/
def Link.lost (l : Link) : Link := { l with state := .down }

/-- The request whose CONVERT frame has ended starts its reply timeout (R33). -/
def startTimeout (f : ConvertFrame) (s : State) : State :=
  { s with tracker.inFlight := s.tracker.inFlight.map (fun e =>
      if e.tag = f.tag ∧ e.remaining = none then { e with remaining := some s.params.replyTimeout } else e) }

/-- The frame on the intake outbound lane ends: a CONVERT's request starts its timeout; a forwarded frame has no builder
here to tell (R33, R168). -/
def upFrameEnded (s : State) : State :=
  match s.intake.lane with
  | some (.convert f) => startTimeout f { s with intake.lane := none }
  | some (.forward _) => { s with intake.lane := none }
  | none => s

/-- The frame on the delivery outbound lane ends: a record frame's end goes to the Delivery Unit (R118, R168). -/
def downFrameEnded (s : State) : State :=
  match s.deliveryPort.lane with
  | some (.record f) => recordFrameEnded f { s with deliveryPort.lane := none }
  | some (.response _) | some (.passback _) | some (.notice _ _) => { s with deliveryPort.lane := none }
  | none => s

/-- The intake link goes from UP to DOWN (R174, R44); the link state is already DOWN. -/
def intakeDropped (s : State) : State :=
  let s1 := upFrameEnded s
  let s2 := { s1 with
    counters.forwardDrops := satAdd s1.counters.forwardDrops s1.intake.forward.length
    intake.forward := []
    intake.turn := 0 }
  postNotice (.intakeLinkChanged false) (fillRest (withdrawConverts s2))

/-- The delivery link goes from UP to DOWN (R175); the link state is already DOWN. -/
def deliveryDropped (s : State) : State :=
  let s1 := downFrameEnded s
  { s1 with
    counters.passbackDrops := satAdd s1.counters.passbackDrops s1.deliveryPort.passback.length
    deliveryPort.passback := []
    deliveryPort.turn := 0 }

/-- The intake link takes a new state: reaching UP posts its notice, leaving UP applies R174 (R163). -/
def setIntakeLink (l : Link) (s : State) : State :=
  let old := s.intake.link.state
  let s1 := { s with intake.link := l }
  if old ≠ .up ∧ l.state = .up then postNotice (.intakeLinkChanged true) s1
  else if old = .up ∧ l.state = .down then intakeDropped s1
  else s1

/-- The delivery link takes a new state: leaving UP applies R175; it posts no notice (R163). -/
def setDeliveryLink (l : Link) (s : State) : State :=
  let old := s.deliveryPort.link.state
  let s1 := { s with deliveryPort.link := l }
  if old = .up ∧ l.state = .down then deliveryDropped s1 else s1

/-- The link of a port. -/
def State.link (s : State) : Port → Link
  | .intake => s.intake.link
  | .delivery => s.deliveryPort.link

/-- The link of a port takes a new state (R163). -/
def setLink (p : Port) (l : Link) (s : State) : State :=
  match p with
  | .intake => setIntakeLink l s
  | .delivery => setDeliveryLink l s

/-- A good frame or good idle group on a port (R163). -/
def goodReception (p : Port) (s : State) : State := setLink p (s.link p).good s

/-- A malformed idle group on a port, or what a bad frame does beside its count (R163). -/
def badReception (p : Port) (s : State) : State := setLink p (s.link p).bad s

/-- A bad frame on an UP link is counted by its port (R165). -/
def countBadFrame (p : Port) (s : State) : State :=
  match p with
  | .intake => { s with counters.intakeBadFrames := satAdd s.counters.intakeBadFrames 1 }
  | .delivery => { s with counters.deliveryBadFrames := satAdd s.counters.deliveryBadFrames 1 }

/-- A bad frame is received: discarded, counted if the link is UP, and it raises the bad run (R163, R165). -/
def receiveBadFrame (p : Port) (s : State) : State :=
  badReception p (if (s.link p).state = .up then countBadFrame p s else s)

/-- A good frame is received: it counts for the link, and is handed on only if the link was UP (R163, R165). -/
def receiveGoodFrame (p : Port) (handOn : State → State) (s : State) : State :=
  if (s.link p).state = .up then handOn (goodReception p s) else goodReception p s

end Sys2Proof.Machine
end

