-- ==== Sys2Proof/Machine/ManagementRequests.lean ====
section
/-! DEFINITION. Meanings of ECHO, READ_STATUS, SET_PARAMETER, GET_PARAMETER, READ_COUNTERS, RESET_ENGINE and of an unknown
kind (08, 07). -/

namespace Sys2Proof.Machine

/-- ECHO: DONE carries the argument unchanged (R158); another argument count is BAD_VALUE (R149). -/
def echoBody (r : Request) (s : State) : State :=
  match r.args with
  | [value] => respond r .done [value] s
  | _ => respond r .badValue [] s

/-- ECHO executes (R158). -/
def execEcho (s : State) : Result := finish (executeFront kindEcho echoBody s)

/-- The five words of a window in a status report (R157, R177). -/
def Window.words (x : Window) : List Word :=
  [flagWord x.opened, word x.size, word x.filled, x.tag.setWidth 32, flagWord x.endAtRecord]

/-- The window remaining, 0 unless QUALIFIED (R157). -/
def Stage.window : Stage → Nat
  | .qualified w => w
  | .openStage | .awaitQualifier => 0

/-- A QUARANTINED tag (R26). -/
def TagState.isQuarantined : TagState → Bool
  | .quarantined _ => true
  | .free | .inFlight => false

/-- The 36 words of the status report, in order (R157, R177). -/
def statusReport (s : State) : List Word :=
  [ word s.sweeper.run.code, s.sweeper.sweepNumber, word s.sweeper.fixedS,
    word s.capture.state.code, word s.capture.haltCause.code, word s.capture.quota, s.capture.nextId.setWidth 32,
    word s.trigger.stage.code, word s.trigger.stage.window,
    word s.memory.free, word s.memory.history.length, word s.delivery.queue.length ] ++
  s.delivery.windowA.words ++ s.delivery.windowB.words ++
  [ word s.delivery.current.code,
    word (s.tracker.tags.count .free), word (s.tracker.tags.count .inFlight),
    word (s.tracker.tags.countP TagState.isQuarantined), word s.tracker.inFlight.length,
    word s.manager.requests.length, word s.manager.deferred.code, word s.manager.responses.length,
    word s.notices.queue.length, word s.deliveryPort.passback.length, word s.intake.forward.length,
    word s.intake.link.state.code, word s.deliveryPort.link.state.code, s.manager.node.setWidth 32 ]

/-- READ_STATUS: DONE carries the report taken at execution (R157). -/
def readStatusBody (r : Request) (s : State) : State :=
  match r.args with
  | [] => respond r .done (statusReport s) s
  | _ => respond r .badValue [] s

/-- READ_STATUS executes (R157). -/
def execReadStatus (s : State) : Result := finish (executeFront kindReadStatus readStatusBody s)

/-- A parameter set put in force; TRIGOUT_MODE acts on its line at once (R68, R155). -/
def putParams (p : Param) (ps : Params) (s : State) : State :=
  match p with
  | .trigoutMode => trigoutModeWritten s.params.trigoutMode { s with params := ps }
  | .sweepPeriod | .startMode | .startEdge | .burstSweeps | .sweepLimit | .programLength | .entrySpacing
  | .inflightLimit | .replyTimeout | .pretriggerSweeps | .posttriggerSweeps | .earlyTrigger | .captureQuota
  | .quotaRepeat | .qualifyWindow => { s with params := ps }

/-- SET_PARAMETER, checked in order: the parameter, the state it may be written in, the range (R155). -/
def setParameterBody (r : Request) (s : State) : State :=
  match r.args with
  | [code, value] =>
    match argParam code with
    | none => respond r .badValue [] s
    | some p =>
      if p.writable s.sweeper.run s.capture.state then
        match s.params.set p value with
        | none => respond r .badValue [] s
        | some ps => respond r .done [code, value] (putParams p ps s)
      else respond r .badState [] s
  | _ => respond r .badValue [] s

/-- SET_PARAMETER executes (R155). -/
def execSetParameter (s : State) : Result := finish (executeFront kindSetParameter setParameterBody s)

/-- GET_PARAMETER: DONE carries the parameter and the value in force (R156). -/
def getParameterBody (r : Request) (s : State) : State :=
  match r.args with
  | [code] =>
    match argParam code with
    | none => respond r .badValue [] s
    | some p => respond r .done [code, word (s.params.get p)] s
  | _ => respond r .badValue [] s

/-- GET_PARAMETER executes (R156). -/
def execGetParameter (s : State) : Result := finish (executeFront kindGetParameter getParameterBody s)

/-- The fourteen counters, in the order of R139. -/
def Counters.words (c : Counters) : List Word :=
  [ c.intakeBadFrames, c.deliveryBadFrames, c.strayReplies, c.lateReplies, c.mismatchedReplies, c.replyTimeouts,
    c.missedSweeps, c.ignoredStartEdges, c.unstoredSweeps, c.historySpaceDrops, c.lostNotices, c.passbackDrops,
    c.forwardDrops, c.droppedRequests ].map (·.setWidth 32)

/-- READ_COUNTERS: DONE carries clear and the counters; with clear yes they are then set to 0 (R139). -/
def readCountersBody (r : Request) (s : State) : State :=
  match r.args with
  | [clear] =>
    match argBool clear with
    | none => respond r .badValue [] s
    | some c =>
      respond r .done (clear :: s.counters.words) (if c then { s with counters := Counters.zero } else s)
  | _ => respond r .badValue [] s

/-- READ_COUNTERS executes (R139). -/
def execReadCounters (s : State) : Result := finish (executeFront kindReadCounters readCountersBody s)

/-- A deferred STOP_RUN is answered SUPERSEDED and leaves the slot (R152). -/
def supersedeStop (s : State) : State :=
  match s.manager.deferred with
  | .stopRun r => respond r .superseded [] { s with manager.deferred := .empty }
  | .empty | .resetEngine _ => s

/-- RESET_ENGINE moves to the deferred slot and sets the reset hold (R152, R159). The hold is set before the arbiters choose,
so on an idle delivery lane SUPERSEDED waits, and the reset effects do not wait for it (DESIGN CHOICE, log entry 17). -/
def resetEngineBody (r : Request) (s : State) : State :=
  match r.args with
  | [] =>
    let s1 := supersedeStop s
    { s1 with manager.deferred := .resetEngine r, manager.resetHold := true }
  | _ => respond r .badValue [] s

/-- RESET_ENGINE executes (R159). -/
def execResetEngine (s : State) : Result := finish (executeFront kindResetEngine resetEngineBody s)

/-- A request whose kind is not in the catalogue is answered UNKNOWN_REQUEST, without effect (R149). A front request of a
catalogue kind is not this event (log entry 7). -/
def unknownKind (s : State) : State :=
  match s.manager.front with
  | some r => if inCatalogue r.kind then s else respond r .unknownRequest [] (popRequest s)
  | none => s

/-- A request of an unknown kind executes (R149). -/
def execUnknownRequestKind (s : State) : Result := finish (unknownKind s)

end Sys2Proof.Machine
end

