-- ==== Sys2Proof/Machine/RunRequests.lean ====
section
/-! DEFINITION. Meanings of WRITE_PROGRAM_ENTRY, READ_PROGRAM_ENTRY, START_RUN and STOP_RUN (01). -/

namespace Sys2Proof.Machine

/-- WRITE_PROGRAM_ENTRY, checked in order: the run STOPPED, then every range (R4). -/
def writeProgramEntryBody (r : Request) (s : State) : State :=
  match r.args with
  | [index, unit, channel, setting, store] =>
    if s.sweeper.run = .stopped then
      match argIn 0 127 index, argEntry unit channel setting store with
      | some i, some e => respond r .done [] { s with sweeper.program := s.sweeper.program.set i e }
      | _, _ => respond r .badValue [] s
    else respond r .badState [] s
  | _ => respond r .badValue [] s

/-- WRITE_PROGRAM_ENTRY executes (R4). -/
def execWriteProgramEntry (s : State) : Result := finish (executeFront kindWriteProgramEntry writeProgramEntryBody s)

/-- READ_PROGRAM_ENTRY: DONE carries the index, the entry's fields, and whether the index is in use (R5). -/
def readProgramEntryBody (r : Request) (s : State) : State :=
  match r.args with
  | [index] =>
    match argIn 0 127 index with
    | some i =>
      let e := s.entry i
      respond r .done [index, e.unit.setWidth 32, e.channel.setWidth 32, e.setting.setWidth 32, flagWord e.store,
        flagWord (decide (i < s.params.programLength))] s
    | none => respond r .badValue [] s
  | _ => respond r .badValue [] s

/-- READ_PROGRAM_ENTRY executes (R5). -/
def execReadProgramEntry (s : State) : Result := finish (executeFront kindReadProgramEntry readProgramEntryBody s)

/-- A condition that keeps a run from starting: its role is not OFF and its source entry is at or beyond
PROGRAM_LENGTH (R8). -/
def Condition.beyond (programLength : Nat) (c : Condition) : Bool :=
  match c.source with
  | .entry i => c.role ≠ .off && decide (programLength ≤ i)
  | .trig0 | .trig1 => false

/-- The prospective S: the count the table gives as it stands (R3). -/
def State.prospectiveS (s : State) : Nat := storeCount s.sweeper.program s.params.programLength

/-- Armed capture at START_RUN: the history ring is discarded, the stage set afresh, FILLING or READY entered anew (R9,
R109); capture that is not armed stays as it is. -/
def restartCapture (s : State) : State :=
  match s.capture.state with
  | .filling | .ready => setArmedState (setStageAfresh (dropHistory s))
  | .idle | .post | .halted => dropHistory s

/-- What START_RUN's acceptance sets before the run state changes (R9, R66). -/
def prepareRun (s : State) : State :=
  let s1 := { s with
    sweeper.fixedS := s.prospectiveS
    sweeper.sweepNumber := 0
    sweeper.gapPending := false
    sweeper.endCause := none }
  restartCapture (mapConditions (fun c => c.unknown.unfired) s1)

/-- The run entered: RUNNING with the pacer loaded and the first sweep at once, or WAITING_LINE (R9). -/
def enterRun (s : State) : State :=
  match s.params.startMode with
  | .freeRun => sweepStart { s with sweeper.run := .running, sweeper.pacer := some s.params.sweepPeriod }
  | .lineStart => { s with sweeper.run := .waitingLine, sweeper.pacer := none, sweeper.burstCount := 0 }

/-- START_RUN, checked in order; accepted, DONE carries S and the cost (R8, R9). -/
def startRunBody (lines : Lines) (r : Request) (s : State) : State :=
  match r.args with
  | [] =>
    if s.sweeper.run ≠ .stopped ∨ s.capture.state = .halted then respond r .badState [] s
    else if s.trigger.conditions.any (Condition.beyond s.params.programLength) then respond r .badValue [] s
    else
      let s1 := enterRun (prepareRun (seeLines lines s))
      respond r .done [word s1.sweeper.fixedS, word s1.cost] s1
  | _ => respond r .badValue [] s

/-- START_RUN executes (R8, R9). -/
def execStartRun (lines : Lines) (s : State) : Result := finish (executeFront kindStartRun (startRunBody lines) s)

/-- A STOP_RUN that needs the deferred slot (R21, R151): it enters an empty slot and `stop` acts on the run; an occupied
slot answers BUSY and leaves the run. -/
def deferStop (r : Request) (stop : State → State) (s : State) : State :=
  match s.manager.deferred with
  | .empty => { stop s with manager.deferred := .stopRun r }
  | .stopRun _ | .resetEngine _ => respond r .busy [] s

/-- STOP_RUN, by run state (R21). -/
def stopRunBody (r : Request) (s : State) : State :=
  match r.args with
  | [] =>
    match s.sweeper.run with
    | .stopped => respond r .done [] s
    | .waitingLine => respond r .done [] (runEndReport (endRun .stopRequest s))
    | .running | .burst =>
      if s.sweeper.sweep.isSome then deferStop r (beginStopping .stopRequest) s
      else respond r .done [] (runEndReport (endRun .stopRequest s))
    | .stopping => deferStop r id s
  | _ => respond r .badValue [] s

/-- STOP_RUN executes (R21). -/
def execStopRun (s : State) : Result := finish (executeFront kindStopRun stopRunBody s)

end Sys2Proof.Machine
end

