-- ==== Sys2Proof/Machine/CaptureRequests.lean ====
section
/-! DEFINITION. Meanings of WRITE_CONDITION, READ_CONDITION, FORCE_TRIGGER, ARM, DISARM and CLEAR_HALT (03, 05). -/

namespace Sys2Proof.Machine

/-- Conditions may be written: capture IDLE or HALTED (R64). -/
def CaptureState.conditionsWritable : CaptureState → Bool
  | .idle | .halted => true
  | .filling | .ready | .post => false

/-- Capture is armed: FILLING or READY (R87). -/
def CaptureState.armed : CaptureState → Bool
  | .filling | .ready => true
  | .idle | .post | .halted => false

/-- WRITE_CONDITION, checked in order: the capture state, then number, ranges and agreement; accepted, every field is
replaced, the condition is UNKNOWN and out of the fire record (R64). -/
def writeConditionBody (r : Request) (s : State) : State :=
  match r.args with
  | [number, role, source, test, threshold, low, high, hysteresis, qualifyCount] =>
    if s.capture.state.conditionsWritable then
      match argIn 0 7 number,
          argCondition s.params.programLength role source test threshold low high hysteresis qualifyCount with
      | some n, some c => respond r .done [] { s with trigger.conditions := s.trigger.conditions.set n c }
      | _, _ => respond r .badValue [] s
    else respond r .badState [] s
  | _ => respond r .badValue [] s

/-- WRITE_CONDITION executes (R64). -/
def execWriteCondition (s : State) : Result := finish (executeFront kindWriteCondition writeConditionBody s)

/-- A condition of the table; every number 0..7 has one (R48). -/
def State.condition (s : State) (n : Nat) : Condition := s.trigger.conditions.getD n Condition.reset

/-- The words of a READ_CONDITION after the number, in order (R65, R177). -/
def Condition.words (c : Condition) : List Word :=
  [ word c.role.code, word c.source.code, word c.test.code, c.threshold.signExtend 32, c.low.signExtend 32,
    c.high.signExtend 32, word c.hysteresis, word c.qualifyCount, word c.readiness.code, word c.runCount,
    flagWord c.fired.isSome ]

/-- READ_CONDITION: DONE carries fields, runtime state and place in the fire record (R65). -/
def readConditionBody (r : Request) (s : State) : State :=
  match r.args with
  | [number] =>
    match argIn 0 7 number with
    | some n => respond r .done (number :: (s.condition n).words) s
    | none => respond r .badValue [] s
  | _ => respond r .badValue [] s

/-- READ_CONDITION executes (R65). -/
def execReadCondition (s : State) : Result := finish (executeFront kindReadCondition readConditionBody s)

/-- FORCE_TRIGGER, by capture state (R62). -/
def forceTriggerBody (r : Request) (s : State) : State :=
  match r.args with
  | [] =>
    if s.capture.state.armed then respond r .done [] { s with trigger.forced := true }
    else respond r .badState [] s
  | _ => respond r .badValue [] s

/-- FORCE_TRIGGER executes (R62). -/
def execForceTrigger (s : State) : Result := finish (executeFront kindForceTrigger forceTriggerBody s)

/-- The S that applies to an ARM: the fixed S while the run goes, the prospective S while it is STOPPED (R89). -/
def State.armS (s : State) : Nat := if s.sweeper.run = .stopped then s.prospectiveS else s.sweeper.fixedS

/-- The size of a full record of that S (R89). -/
def State.fullRecord (s : State) : Nat :=
  Config.headerCells +
    (s.params.pretriggerSweeps + 1 + s.params.posttriggerSweeps) * (Config.blockHeaderCells + s.armS)

/-- ARM's effects (R90). -/
def armEffects (s : State) : State := armNow { s with capture.quota := s.params.captureQuota }

/-- ARM, checked in order; accepted, DONE carries the S checked, the cost and the full-record size (R89, R90). -/
def armBody (r : Request) (s : State) : State :=
  match r.args with
  | [] =>
    if s.capture.state ≠ .idle then respond r .badState [] s
    else if Config.storeCells < s.fullRecord then respond r .badValue [] s
    else if s.memory.free < Config.headerCells then respond r .noSpace [] s
    else if Config.recordPlaces ≤ s.delivery.queue.length then respond r .queueFull [] s
    else
      respond r .done [word s.armS, word (Config.blockHeaderCells + s.armS), word s.fullRecord] (armEffects s)
  | _ => respond r .badValue [] s

/-- ARM executes (R89, R90). -/
def execArm (s : State) : Result := finish (executeFront kindArm armBody s)

/-- DISARM's effects, by capture state (R106); HALTED is refused by the caller. -/
def disarmEffects (s : State) : State :=
  match s.capture.state with
  | .idle | .halted => s
  | .filling | .ready =>
    let s1 := clearForced (freeReservation (dropHistory s))
    { s1 with capture.state := .idle }
  | .post =>
    let s1 := clearForced (closeRecord false true s)
    { s1 with capture.state := .idle }

/-- DISARM, by capture state (R106). -/
def disarmBody (r : Request) (s : State) : State :=
  match r.args with
  | [] => if s.capture.state = .halted then respond r .badState [] s else respond r .done [] (disarmEffects s)
  | _ => respond r .badValue [] s

/-- DISARM executes (R106). -/
def execDisarm (s : State) : Result := finish (executeFront kindDisarm disarmBody s)

/-- CLEAR_HALT, by capture state and run state (R105). -/
def clearHaltBody (r : Request) (s : State) : State :=
  match r.args with
  | [] =>
    if s.capture.state = .halted ∧ s.sweeper.run = .stopped then
      respond r .done [] { s with capture.state := .idle, capture.haltCause := .none }
    else respond r .badState [] s
  | _ => respond r .badValue [] s

/-- CLEAR_HALT executes (R105). -/
def execClearHalt (s : State) : Result := finish (executeFront kindClearHalt clearHaltBody s)

end Sys2Proof.Machine
end

