-- ==== Sys2Proof/Machine/DeliveryRequests.lean ====
section
/-! DEFINITION. Meanings of OPEN_WINDOW, CLOSE_WINDOW and DISCARD_RECORD (06). -/

namespace Sys2Proof.Machine

/-- OPEN_WINDOW, checked in order: the ranges, then the window CLOSED (R115). -/
def openWindowBody (r : Request) (s : State) : State :=
  match r.args with
  | [window, size, tag, endAtRecord] =>
    match argWindow window, argIn 1 65535 size, argIn 0 255 tag, argBool endAtRecord with
    | some w, some n, some t, some e =>
      if (s.delivery.window w).opened then respond r .badState [] s
      else
        respond r .done []
          (putWindow w
            { opened := true, size := n, filled := 0, tag := BitVec.ofNat 8 t, endAtRecord := e, closePending := false } s)
    | _, _, _, _ => respond r .badValue [] s
  | _ => respond r .badValue [] s

/-- OPEN_WINDOW executes (R115). -/
def execOpenWindow (s : State) : Result := finish (executeFront kindOpenWindow openWindowBody s)

/-- A close of an OPEN window (R122): pending while a record frame is in transmission into it, else at once, early. -/
def closeOpenWindow (w : WindowId) (s : State) : State :=
  if w = s.delivery.current then
    if s.frameUnderWay.isSome then putWindow w { s.delivery.window w with closePending := true } s
    else completeWindow w true s
  else finishWindow w true s

/-- CLOSE_WINDOW, by the window's state (R122). -/
def closeWindowBody (r : Request) (s : State) : State :=
  match r.args with
  | [window] =>
    match argWindow window with
    | some w => if (s.delivery.window w).opened then respond r .done [] (closeOpenWindow w s) else respond r .badState [] s
    | none => respond r .badValue [] s
  | _ => respond r .badValue [] s

/-- CLOSE_WINDOW executes (R122). -/
def execCloseWindow (s : State) : Result := finish (executeFront kindCloseWindow closeWindowBody s)

/-- DISCARD_RECORD (R124, R125). -/
def discardRecordBody (r : Request) (s : State) : State :=
  match r.args with
  | [id] =>
    match argIn 0 65535 id with
    | some n =>
      let outcome := discardById (BitVec.ofNat 16 n) s
      respond r outcome.1 [] outcome.2
    | none => respond r .badValue [] s
  | _ => respond r .badValue [] s

/-- DISCARD_RECORD executes (R124, R125). -/
def execDiscardRecord (s : State) : Result := finish (executeFront kindDiscardRecord discardRecordBody s)

end Sys2Proof.Machine
end

