-- ==== Sys2Proof/Machine/Arrivals.lean ====
section
/-! DEFINITION. Meanings of REQUEST_ARRIVAL, SAMPLE_RECEIVED, PASSBACK_RECEIVED and BAD_FRAME (08, 02, 09). -/

namespace Sys2Proof.Machine

/-- A refusal at arrival: a response when the total is below 12, else the request is dropped and counted (R145). -/
def refuseArrival (r : Request) (status : Status) (s : State) : State :=
  if s.manager.total < Config.totalPlaces then respond r status [] s
  else { s with counters.droppedRequests := satAdd s.counters.droppedRequests 1 }

/-- A request of class own, or a broadcast offered for execution here (R144, R145). -/
def acceptOwn (r : Request) (s : State) : State :=
  if s.manager.requests.length < Config.requestPlaces ∧ s.manager.total < Config.totalPlaces then
    { s with manager.requests := s.manager.requests ++ [r] }
  else refuseArrival r .busy s

/-- The frame of a request joins the forward buffer, and `next` acts, or the refusal of R146 is made (R146, R147). -/
def forwardArrival (r : Request) (next : State → State) (s : State) : State :=
  if s.intake.link.state ≠ .up then refuseArrival r .linkDown s
  else if Config.bufferPlaces ≤ s.intake.forward.length then refuseArrival r .forwardFull s
  else next { s with intake.forward := s.intake.forward ++ [r] }

/-- The arrival of a request, by its destination (R143). -/
def classifyArrival (r : Request) (s : State) : State :=
  if r.destination = s.manager.node then acceptOwn r s
  else if r.destination = 15 then forwardArrival r (acceptOwn r) s
  else forwardArrival r id s

/-- A REQUEST frame on delivery inbound; one with more than nine arguments is bad by length (R165, R167). -/
def receiveRequest (r : Request) (s : State) : State :=
  if r.args.length ≤ Config.maxArgs then receiveGoodFrame .delivery (classifyArrival r) s
  else receiveBadFrame .delivery s

/-- A REQUEST frame arrives (R143). -/
def execRequestArrival (r : Request) (s : State) : Result := finish (receiveRequest r s)

/-- A stray reply: counted and dropped (R35, R39). -/
def strayReply (s : State) : State := { s with counters.strayReplies := satAdd s.counters.strayReplies 1 }

/-- A late reply: counted and dropped, its tag FREE at once, and the issue test made (R29, R38). -/
def lateReply (t : Nat) (s : State) : State :=
  issueTest (setTag t .free { s with counters.lateReplies := satAdd s.counters.lateReplies 1 })

/-- What a matched reply completes its request with (R36). -/
def sampleContent (f : SampleFrame) : Content :=
  if f.unitFault then .missing .unitFault else .value f.value f.overRange

/-- A reply for a timing entry: matched when unit and channel agree (R36), else mismatched (R37). -/
def timedReply (f : SampleFrame) (e : InFlight) (s : State) : State :=
  if f.unit = e.unit ∧ f.channel = e.channel then completeRequest e (sampleContent f) .free s
  else
    completeRequest e (.missing .mismatch) (.quarantined s.params.replyTimeout)
      { s with counters.mismatchedReplies := satAdd s.counters.mismatchedReplies 1 }

/-- A SAMPLE frame handed to the Request Tracker, by the state of its tag (R35 to R39). -/
def matchReply (f : SampleFrame) (s : State) : State :=
  match s.tracker.tags[f.tag.toNat]? with
  | some (.quarantined _) => lateReply f.tag.toNat s
  | some .inFlight =>
    match s.tracker.inFlight.find? (fun e => e.tag == f.tag.toNat) with
    | some e => if e.remaining.isSome then timedReply f e s else strayReply s
    | none => strayReply s
  | some .free | none => strayReply s

/-- A SAMPLE frame on intake inbound (R163, R166). -/
def receiveSample (f : SampleFrame) (s : State) : State := receiveGoodFrame .intake (matchReply f) s

/-- A SAMPLE frame arrives (R36). -/
def execSampleReceived (f : SampleFrame) (lines : Lines) (s : State) : Result := finish (receiveSample f (seeLines lines s))

/-- A passback frame joins the buffer unchanged, or is dropped and counted when the buffer is full (R166). -/
def joinPassback (f : RawFrame) (s : State) : State :=
  if s.deliveryPort.passback.length < Config.bufferPlaces then
    { s with deliveryPort.passback := s.deliveryPort.passback ++ [f] }
  else { s with counters.passbackDrops := satAdd s.counters.passbackDrops 1 }

/-- A whole frame on intake inbound, by its check, kind and length (R165, R166); the command brings a frame that is good
and no SAMPLE, and for any other frame the port does what its rules say of it. -/
def receiveIntakeFrame (f : RawFrame) (s : State) : State :=
  if f.goodOnIntake then
    if f.kind = kindSample then
      match sampleOf f.payload with
      | some smp => receiveSample smp s
      | none => receiveBadFrame .intake s
    else receiveGoodFrame .intake (joinPassback f) s
  else receiveBadFrame .intake s

/-- A non-SAMPLE frame arrives from the units (R166). -/
def execPassbackReceived (f : RawFrame) (s : State) : Result := finish (receiveIntakeFrame f s)

/-- A bad frame is received (R165). -/
def execBadFrame (p : Port) (lines : Lines) (s : State) : Result := finish (receiveBadFrame p (seeLines lines s))

end Sys2Proof.Machine
end

