-- ==== Sys2Proof/Machine/LinkEvents.lean ====
section
/-! DEFINITION. Meanings of the idle, alignment and signal events of a port (R163). -/

namespace Sys2Proof.Machine

/-- The idle alignment sequence is received: a DOWN link goes ALIGNING (R163). -/
def execIdleAlignmentSequence (p : Port) (s : State) : Result := finish (setLink p (s.link p).align s)

/-- A good idle group is received (R163). -/
def execGoodIdleGroup (p : Port) (s : State) : Result := finish (goodReception p s)

/-- A malformed idle group is received; no counter is raised (R163). -/
def execMalformedIdleGroup (p : Port) (lines : Lines) (s : State) : Result :=
  finish (badReception p (seeLines lines s))

/-- Loss of signal: an ALIGNING or UP link goes DOWN (R163). -/
def execLossOfSignal (p : Port) (lines : Lines) (s : State) : Result :=
  finish (setLink p (s.link p).lost (seeLines lines s))

/-- A whole frame on an ALIGNING link counts for the alignment run and nothing else; on a link in another state this
event does not occur (R163; log entry 7). -/
def frameWhileAligning (p : Port) (good : Bool) (s : State) : State :=
  if (s.link p).state = .aligning then (if good then goodReception p s else badReception p s) else s

/-- A whole frame is received while ALIGNING (R163). -/
def execFrameReceivedWhileAligning (p : Port) (good : Bool) (s : State) : Result := finish (frameWhileAligning p good s)

end Sys2Proof.Machine
end

