-- ==== Sys2Proof/Machine/SweepEvents.lean ====
section
/-! DEFINITION. Meanings of the timer expiries and of SWEEP_START_EDGE (01, 02, 03). -/

namespace Sys2Proof.Machine

/-- A missed sweep: counted, and the gap-pending flag set (R14). -/
def missSweep (s : State) : State :=
  { s with sweeper.gapPending := true, counters.missedSweeps := satAdd s.counters.missedSweeps 1 }

/-- A pacer event starts a sweep, or misses one when a sweep is in progress (R13, R14, R17). -/
def pacerEvent (s : State) : State := if s.sweeper.sweep.isSome then missSweep s else sweepStart s

/-- The pacer's reload in BURST: while pacer events are still to come (R6, R17). -/
def burstPacer (left period : Nat) : Option Nat := if 0 < left then some period else none

/-- The pacer expires (R13, R17). An idle pacer produces no expiry, and it is idle in the other run states (R6). -/
def pacerExpires (s : State) : State :=
  match s.sweeper.pacer, s.sweeper.run with
  | some _, .running => pacerEvent { s with sweeper.pacer := some s.params.sweepPeriod }
  | some _, .burst =>
    pacerEvent
      { s with
        sweeper.burstCount := s.sweeper.burstCount - 1
        sweeper.pacer := burstPacer (s.sweeper.burstCount - 1) s.params.sweepPeriod }
  | some _, .stopped | some _, .waitingLine | some _, .stopping | none, _ => s

/-- The pacer expires (R13). -/
def execPacerExpiry (lines : Lines) (s : State) : Result := finish (pacerExpires (seeLines lines s))

/-- The level that a start edge leads to (R15). -/
def StartEdge.level : StartEdge → Bool
  | .rising => true
  | .falling => false

/-- A start edge, by run state (R15, R16). -/
def startEdgeSeen (s : State) : State :=
  match s.sweeper.run with
  | .waitingLine =>
    sweepStart
      { s with
        sweeper.run := .burst
        sweeper.burstCount := s.params.burstSweeps - 1
        sweeper.pacer := burstPacer (s.params.burstSweeps - 1) s.params.sweepPeriod }
  | .burst | .stopping => { s with counters.ignoredStartEdges := satAdd s.counters.ignoredStartEdges 1 }
  | .stopped | .running => s

/-- SWEEP_START has this level: a change is an edge, and one of START_EDGE's polarity is a start edge (R15). -/
def startLineLevel (level : Bool) (s : State) : State :=
  if level = s.sweeper.startLevel then s
  else
    let s1 := { s with sweeper.startLevel := level }
    if level = s.params.startEdge.level then startEdgeSeen s1 else s1

/-- SWEEP_START changes level (R15). -/
def execSweepStartEdge (level : Bool) (lines : Lines) (s : State) : Result :=
  finish (startLineLevel level (seeLines lines s))

/-- The spacing timer expires and the issue test is made (R29, R30); an expired timer has no expiry. -/
def spacingExpires (s : State) : State :=
  match s.tracker.spacing with
  | some _ => issueTest { s with tracker.spacing := none }
  | none => s

/-- The spacing timer expires (R30). -/
def execSpacingTimerExpiry (lines : Lines) (s : State) : Result := finish (spacingExpires (seeLines lines s))

/-- A request times out (R34); a tag without a timing entry has no timeout (R33, R41). -/
def requestTimesOut (t : Nat) (s : State) : State :=
  match s.tracker.inFlight.find? (fun e => e.tag == t) with
  | some e =>
    if e.remaining.isSome then
      completeRequest e (.missing .timeout) (.quarantined s.params.replyTimeout)
        { s with counters.replyTimeouts := satAdd s.counters.replyTimeouts 1 }
    else s
  | none => s

/-- The remaining timeout of a request reaches 0 (R34). -/
def execRequestTimeout (tag : Fin 32) (lines : Lines) (s : State) : Result :=
  finish (requestTimesOut tag.val (seeLines lines s))

/-- A quarantine runs out: the tag is FREE and the issue test is made (R29, R40); no other tag has a quarantine (R41). -/
def quarantineEnds (t : Nat) (s : State) : State :=
  match s.tracker.tags[t]? with
  | some (.quarantined _) => issueTest (setTag t .free s)
  | some .free | some .inFlight | none => s

/-- The remaining quarantine time of a tag reaches 0 (R40). -/
def execQuarantineExpiry (tag : Fin 32) (lines : Lines) (s : State) : Result :=
  finish (quarantineEnds tag.val (seeLines lines s))

/-- The pulse timer expires and TRIGOUT goes low (R67); an idle timer has no expiry. -/
def pulseExpires (s : State) : State :=
  match s.trigger.pulse with
  | some _ => driveTrigout false s
  | none => s

/-- The TRIGOUT pulse timer expires (R67). -/
def execTrigoutPulseExpiry (s : State) : Result := finish (pulseExpires s)

end Sys2Proof.Machine
end

