-- ==== Sys2Proof/Machine/LaneEvents.lean ====
section
/-! DEFINITION. Meanings of the ends of transmissions (R33, R118, R168). An end of a frame that is not in transmission does
not occur and changes nothing (log entry 7). -/

namespace Sys2Proof.Machine

/-- The transmission of a CONVERT frame ends and its request's timeout starts (R33). -/
def convertEnds (s : State) : State :=
  match s.intake.lane with
  | some (.convert _) => upFrameEnded s
  | some (.forward _) | none => s

/-- The transmission of a CONVERT frame ends (R33). -/
def execConvertSent (s : State) : Result := finish (convertEnds s)

/-- The transmission of a record frame ends (R118, R125). -/
def recordEnds (s : State) : State :=
  match s.deliveryPort.lane with
  | some (.record _) => downFrameEnded s
  | some (.response _) | some (.passback _) | some (.notice _ _) | none => s

/-- The transmission of a record frame ends (R118). -/
def execRecordFrameEnd (s : State) : Result := finish (recordEnds s)

/-- The transmission of a forwarded frame, or of a response, notice or passback frame, ends (R168). -/
def otherFrameEnds (p : Port) (s : State) : State :=
  match p with
  | .intake =>
    match s.intake.lane with
    | some (.forward _) => upFrameEnded s
    | some (.convert _) | none => s
  | .delivery =>
    match s.deliveryPort.lane with
    | some (.response _) | some (.passback _) | some (.notice _ _) => downFrameEnded s
    | some (.record _) | none => s

/-- The transmission of a response, notice, passback or forwarded frame ends (R168). -/
def execFrameTransmissionEnd (p : Port) (s : State) : Result := finish (otherFrameEnds p s)

end Sys2Proof.Machine
end

