-- ==== Sys2Proof/Machine/Resets.lean ====
section
/-! DEFINITION. Meanings of RESET_EFFECTS and HARD_RESET: what each block holds after each (R24, R46, R69, R85, R111, R128,
R137, R160, R161; R25 and its fellows). -/

namespace Sys2Proof.Machine

/-- RESET_ENGINE in the Sweep Controller (R24). -/
def SweepController.resetEngine (c : SweepController) : SweepController :=
  { c with run := .stopped, pacer := none, burstCount := 0, sweep := none, gapPending := false, endCause := none }

/-- RESET_ENGINE in the Request Tracker (R46). -/
def RequestTracker.resetEngine (c : RequestTracker) (replyTimeout : Nat) : RequestTracker :=
  { c with tags := c.tags.map (fun _ => .quarantined replyTimeout), inFlight := [], cursor := none, spacing := none,
           converts := [] }

/-- RESET_ENGINE in the Trigger Unit (R69). -/
def TriggerUnit.resetEngine (c : TriggerUnit) : TriggerUnit :=
  { conditions := c.conditions.map (fun x => x.unknown.unfired), stage := freshStage c.conditions, forced := false,
    trigout := false, pulse := none }

/-- RESET_ENGINE in Capture Memory (R85). -/
def CaptureMemory.emptied : CaptureMemory :=
  { free := Config.storeCells, history := [], current := none, reservation := 0 }

/-- RESET_ENGINE in the Capture Controller (R111). -/
def CaptureController.resetEngine (c : CaptureController) : CaptureController :=
  { c with state := .idle, haltCause := .none, quota := 0, openRecord := none }

/-- RESET_ENGINE on a window (R128). -/
def Window.resetEngine (x : Window) : Window := { x with opened := false, closePending := false }

/-- RESET_ENGINE in the Delivery Unit (R128). -/
def DeliveryUnit.resetEngine (d : DeliveryUnit) : DeliveryUnit :=
  { queue := [], windowA := d.windowA.resetEngine, windowB := d.windowB.resetEngine, current := .a, position := 0,
    note := none }

/-- The reset effects in every block at one moment (R160 step 1). -/
def resetBlocks (s : State) : State :=
  { s with
    sweeper := s.sweeper.resetEngine
    tracker := s.tracker.resetEngine s.params.replyTimeout
    trigger := s.trigger.resetEngine
    memory := CaptureMemory.emptied
    capture := s.capture.resetEngine
    delivery := s.delivery.resetEngine
    notices := { queue := [], droppedBefore := 0 } }

/-- Neither outbound lane has a frame in transmission (R160). -/
def State.lanesQuiet (s : State) : Bool := s.intake.lane.isNone && s.deliveryPort.lane.isNone

/-- The deferred RESET_ENGINE completes: effects, DONE, the hold cleared (R160). While a lane still has a frame in
transmission, or no RESET_ENGINE is deferred, this event does not occur (log entry 7). -/
def resetCompletes (s : State) : State :=
  match s.manager.deferred with
  | .resetEngine r =>
    if s.lanesQuiet then
      let s1 := respond r .done [] (resetBlocks s)
      { s1 with manager.deferred := .empty, manager.resetHold := false }
    else s
  | .empty | .stopRun _ => s

/-- The reset effects are applied (R160). -/
def execResetEffects (s : State) : Result := finish (resetCompletes s)

/-- The node number from the strap setting: 15 is taken as node 0 (R141). -/
def nodeOfStraps (straps : BitVec 4) : BitVec 4 := if straps = 15 then 0 else straps

/-- Hard reset: every block at its hard-reset values. The sampled lines are inputs and keep their levels; the queue of
commands and the count of free choices are the model's own and stay (log entries 1, 3, 5). -/
def hardResetState (straps : BitVec 4) (sweepStart : Bool) (s : State) : State :=
  { State.afterReset (nodeOfStraps straps) sweepStart with
    lines := s.lines, choices := s.choices, pending := s.pending }

/-- The RESET line is released (R25, R47, R70, R86, R112, R129, R137, R138, R141, R162, R176). -/
def execHardReset (straps : BitVec 4) (sweepStart : Bool) (s : State) : Result :=
  finish (hardResetState straps sweepStart s)

end Sys2Proof.Machine
end

