-- ==== Sys2Proof/Machine/Dispatch.lean ====
section
/-! DEFINITION. Dispatch: one arm per constructor of Instr, each a direct call of its meaning. -/

namespace Sys2Proof.Machine

def exec (i : Instr) (s : State) : Host.Outcome State Fault Refusal :=
  match i with
  | .echo => Sys2Proof.Machine.execEcho s
  | .readStatus => Sys2Proof.Machine.execReadStatus s
  | .setParameter => Sys2Proof.Machine.execSetParameter s
  | .getParameter => Sys2Proof.Machine.execGetParameter s
  | .writeProgramEntry => Sys2Proof.Machine.execWriteProgramEntry s
  | .readProgramEntry => Sys2Proof.Machine.execReadProgramEntry s
  | .startRun lines => Sys2Proof.Machine.execStartRun lines s
  | .stopRun => Sys2Proof.Machine.execStopRun s
  | .writeCondition => Sys2Proof.Machine.execWriteCondition s
  | .readCondition => Sys2Proof.Machine.execReadCondition s
  | .forceTrigger => Sys2Proof.Machine.execForceTrigger s
  | .arm => Sys2Proof.Machine.execArm s
  | .disarm => Sys2Proof.Machine.execDisarm s
  | .clearHalt => Sys2Proof.Machine.execClearHalt s
  | .openWindow => Sys2Proof.Machine.execOpenWindow s
  | .closeWindow => Sys2Proof.Machine.execCloseWindow s
  | .discardRecord => Sys2Proof.Machine.execDiscardRecord s
  | .readCounters => Sys2Proof.Machine.execReadCounters s
  | .resetEngine => Sys2Proof.Machine.execResetEngine s
  | .unknownRequestKind => Sys2Proof.Machine.execUnknownRequestKind s
  | .requestArrival r => Sys2Proof.Machine.execRequestArrival r s
  | .sampleReceived f lines => Sys2Proof.Machine.execSampleReceived f lines s
  | .passbackReceived f => Sys2Proof.Machine.execPassbackReceived f s
  | .badFrame p lines => Sys2Proof.Machine.execBadFrame p lines s
  | .idleAlignmentSequence p => Sys2Proof.Machine.execIdleAlignmentSequence p s
  | .goodIdleGroup p => Sys2Proof.Machine.execGoodIdleGroup p s
  | .malformedIdleGroup p lines => Sys2Proof.Machine.execMalformedIdleGroup p lines s
  | .lossOfSignal p lines => Sys2Proof.Machine.execLossOfSignal p lines s
  | .pacerExpiry lines => Sys2Proof.Machine.execPacerExpiry lines s
  | .sweepStartEdge level lines => Sys2Proof.Machine.execSweepStartEdge level lines s
  | .spacingTimerExpiry lines => Sys2Proof.Machine.execSpacingTimerExpiry lines s
  | .convertSent => Sys2Proof.Machine.execConvertSent s
  | .requestTimeout tag lines => Sys2Proof.Machine.execRequestTimeout tag lines s
  | .quarantineExpiry tag lines => Sys2Proof.Machine.execQuarantineExpiry tag lines s
  | .trigoutPulseExpiry => Sys2Proof.Machine.execTrigoutPulseExpiry s
  | .recordFrameEnd => Sys2Proof.Machine.execRecordFrameEnd s
  | .frameTransmissionEnd p => Sys2Proof.Machine.execFrameTransmissionEnd p s
  | .resetEffects => Sys2Proof.Machine.execResetEffects s
  | .hardReset straps sweepStart => Sys2Proof.Machine.execHardReset straps sweepStart s
  | .frameReceivedWhileAligning p good => Sys2Proof.Machine.execFrameReceivedWhileAligning p good s

end Sys2Proof.Machine
end

