-- ==== Sys2Proof/Machine/Time.lean ====
section
/-! DEFINITION. What the engine does of itself: internal events that are due, and one REFCLK cycle when none is. -/

namespace Sys2Proof.Machine

/-- The command that executes a request at the front of the Request Queue, by its kind (R149, R179). -/
def requestCommand (kind : Byte) (lines : Lines) : Instr :=
  if kind = kindEcho then .echo
  else if kind = kindReadStatus then .readStatus
  else if kind = kindSetParameter then .setParameter
  else if kind = kindGetParameter then .getParameter
  else if kind = kindWriteProgramEntry then .writeProgramEntry
  else if kind = kindReadProgramEntry then .readProgramEntry
  else if kind = kindStartRun then .startRun lines
  else if kind = kindStopRun then .stopRun
  else if kind = kindWriteCondition then .writeCondition
  else if kind = kindReadCondition then .readCondition
  else if kind = kindForceTrigger then .forceTrigger
  else if kind = kindArm then .arm
  else if kind = kindDisarm then .disarm
  else if kind = kindClearHalt then .clearHalt
  else if kind = kindOpenWindow then .openWindow
  else if kind = kindCloseWindow then .closeWindow
  else if kind = kindDiscardRecord then .discardRecord
  else if kind = kindReadCounters then .readCounters
  else if kind = kindResetEngine then .resetEngine
  else .unknownRequestKind

/-- The deferred RESET_ENGINE completes now: both lanes are quiet (R160). -/
def State.resetDue (s : State) : Bool := s.manager.held && s.lanesQuiet

/-- The execution of the front request, due as soon as it is at the front (R149). -/
def State.requestDue (s : State) : List Instr :=
  match s.manager.front with
  | some r => [requestCommand r.kind s.lines]
  | none => []

/-- The end of the frame on the intake outbound lane, due when its last byte has gone (R168). -/
def State.upEndDue (s : State) : List Instr :=
  if s.intake.cycles = 0 then
    match s.intake.lane with
    | some (.convert _) => [.convertSent]
    | some (.forward _) => [.frameTransmissionEnd .intake]
    | none => []
  else []

/-- The end of the frame on the delivery outbound lane, due when its last byte has gone (R168). -/
def State.downEndDue (s : State) : List Instr :=
  if s.deliveryPort.cycles = 0 then
    match s.deliveryPort.lane with
    | some (.record _) => [.recordFrameEnd]
    | some (.response _) | some (.passback _) | some (.notice _ _) => [.frameTransmissionEnd .delivery]
    | none => []
  else []

/-- The expiry of a timer, due when its count has reached 0. -/
def expiryDue (timer : Option Nat) (i : Instr) : List Instr := if timer = some 0 then [i] else []

/-- The timeout due next of those that have reached 0: entries completed together go oldest issue first (R27, R34). -/
def State.timeoutsDue (s : State) : List Instr :=
  match s.tracker.inFlight.find? (fun e => e.remaining = some 0) with
  | some e => [.requestTimeout (Fin.ofNat 32 e.tag) s.lines]
  | none => []

/-- The quarantines that have reached 0 (R40). -/
def State.quarantinesDue (s : State) : List Instr :=
  ((List.finRange 32).filter (fun t => s.tracker.tags[t.val]? = some (.quarantined 0))).map
    (fun t => .quarantineExpiry t s.lines)

/-- The internal events that are due and come together. -/
def State.eventsDue (s : State) : List Instr :=
  s.requestDue ++ s.upEndDue ++ s.downEndDue ++ expiryDue s.sweeper.pacer (.pacerExpiry s.lines) ++
    expiryDue s.tracker.spacing (.spacingTimerExpiry s.lines) ++ s.timeoutsDue ++ s.quarantinesDue ++
    expiryDue s.trigger.pulse .trigoutPulseExpiry

/-- A quarantine counts down one tick (R40). -/
def TagState.tick : TagState → TagState
  | .quarantined n => .quarantined (n - 1)
  | .free => .free
  | .inFlight => .inFlight

/-- One tick: the tick counter rises and wraps, and every timer that runs counts down by one (00_scope "Tick", R6, R30,
R33, R40, R67). -/
def tick (s : State) : State :=
  { s with
    clock.tick := s.clock.tick + 1
    clock.phase := 0
    sweeper.pacer := s.sweeper.pacer.map (· - 1)
    tracker.spacing := s.tracker.spacing.map (· - 1)
    tracker.inFlight := s.tracker.inFlight.map (fun e => { e with remaining := e.remaining.map (· - 1) })
    tracker.tags := s.tracker.tags.map TagState.tick
    trigger.pulse := s.trigger.pulse.map (· - 1) }

/-- One REFCLK cycle: the lanes send, and every twenty-fifth cycle is a tick (R168; DEDUCED, log entry 2). -/
def clockCycle (s : State) : State :=
  let s1 := { s with intake.cycles := s.intake.cycles - 1, deliveryPort.cycles := s.deliveryPort.cycles - 1 }
  if s.clock.phase + 1 < Config.cyclesPerTick then { s1 with clock.phase := s.clock.phase + 1 } else tick s1

/-- One of the internal events that come together: which is taken first is free (log entry 3). -/
def pickEvent (choices : Nat) (first : Instr) (others : List Instr) : Instr :=
  match others with
  | [] => first
  | _ :: _ => (first :: others).getD (Config.tieBreak choices % (others.length + 1)) first

/-- What a step does on an empty queue (DESIGN CHOICE, log entries 1 to 3): a RESET_ENGINE whose lanes are quiet completes
before anything else (R160); else one of the internal events that are due is put in front; else one cycle passes. -/
def idle (s : State) : State :=
  if s.resetDue then { s with pending := [.resetEffects] }
  else
    match s.eventsDue with
    | [] => clockCycle s
    | e :: es => { s with pending := [pickEvent s.choices e es], choices := s.choices + 1 }

end Sys2Proof.Machine
end

