-- ==== Sys2Proof/Safety.lean ====
section
/-! DEFINITION. What holds of every state a run reaches: the bounds and the agreements the rules promise, block by block.
Each structure is one promise; the statements say that every step keeps it. -/

namespace Sys2Proof.Machine

/-- Every parameter in force lies in its range (R155). -/
structure ParamsInv (s : State) : Prop where
  sweepPeriod : 2 ≤ s.params.sweepPeriod ∧ s.params.sweepPeriod ≤ 16777215
  burstSweeps : 1 ≤ s.params.burstSweeps ∧ s.params.burstSweeps ≤ 255
  sweepLimit : s.params.sweepLimit ≤ 65535
  programLength : 1 ≤ s.params.programLength ∧ s.params.programLength ≤ 128
  entrySpacing : s.params.entrySpacing ≤ 255
  inflightLimit : 1 ≤ s.params.inflightLimit ∧ s.params.inflightLimit ≤ 8
  replyTimeout : 1 ≤ s.params.replyTimeout ∧ s.params.replyTimeout ≤ 1023
  pretriggerSweeps : s.params.pretriggerSweeps ≤ 255
  posttriggerSweeps : 1 ≤ s.params.posttriggerSweeps ∧ s.params.posttriggerSweeps ≤ 65535
  captureQuota : 1 ≤ s.params.captureQuota ∧ s.params.captureQuota ≤ 255
  qualifyWindow : 1 ≤ s.params.qualifyWindow ∧ s.params.qualifyWindow ≤ 255

/-- The bounds of every queue and buffer (R130, R132, R134, R144, R148, R153, R169, R170), and the reset hold stands
exactly while a RESET_ENGINE waits (R159, R160). -/
structure QueuesInv (s : State) : Prop where
  requests : s.manager.requests.length ≤ 8
  total : s.manager.total ≤ 12
  hold : s.manager.resetHold = s.manager.held
  notices : s.notices.queue.length ≤ 8
  droppedBefore : s.notices.droppedBefore ≤ 255
  droppedBehindFull : 0 < s.notices.droppedBefore → s.notices.queue.length = 8
  forward : s.intake.forward.length ≤ 4
  passback : s.deliveryPort.passback.length ≤ 4

/-- The runs of a link stay in their ranges, below their limits in the state that counts them (R163). -/
structure LinkInv (l : Link) : Prop where
  alignRun : l.alignRun ≤ 4
  badRun : l.badRun ≤ 8
  aligning : l.state = .aligning → l.alignRun < 4
  up : l.state = .up → l.badRun < 8

/-- Nothing is in transmission on a link that is not UP, and its turn count is 0 (R168, R169, R173). -/
structure PortsInv (s : State) : Prop where
  intakeLink : LinkInv s.intake.link
  deliveryLink : LinkInv s.deliveryPort.link
  upQuiet : s.intake.link.state ≠ .up → s.intake.lane = none ∧ s.intake.forward = [] ∧ s.intake.turn = 0
  downQuiet : s.deliveryPort.link.state ≠ .up → s.deliveryPort.lane = none ∧ s.deliveryPort.turn = 0
  upTurn : s.intake.turn ≤ 4
  downTurn : s.deliveryPort.turn ≤ 3

/-- The run state agrees with the sweep in progress, the pacer, the deferred slot and the issuing of the sweep
(01 "Runs and their states", R6, R17, R28, R151). -/
structure RunInv (s : State) : Prop where
  noSweep : s.sweeper.run = .stopped ∨ s.sweeper.run = .waitingLine → s.sweeper.sweep = none
  stopping : s.sweeper.run = .stopping → s.sweeper.sweep.isSome ∧ s.sweeper.endCause.isSome
  pacerRuns : s.sweeper.pacer.isSome → s.sweeper.run = .running ∨ s.sweeper.run = .burst
  runningPaced : s.sweeper.run = .running → s.sweeper.pacer.isSome
  burstLast : s.sweeper.run = .burst → s.sweeper.burstCount = 0 → s.sweeper.pacer = none ∧ s.sweeper.sweep.isSome
  deferredStop : ∀ r, s.manager.deferred = .stopRun r → s.sweeper.run = .stopping
  idleTracker : s.sweeper.sweep = none → s.tracker.cursor = none ∧ s.tracker.inFlight = []
  busyTracker : s.sweeper.sweep.isSome → s.tracker.cursor.isSome ∨ s.tracker.inFlight ≠ []

/-- The tag of the CONVERT frame in transmission, if one is (R171). -/
def UpFrame.convertTags : Option UpFrame → List Nat
  | some (.convert f) => [f.tag]
  | some (.forward _) | none => []

/-- The tags and the in-flight table agree, and the entries waiting to send are those whose frames are queued or in
transmission, in order (R26, R27, R31, R33, R43, R44). -/
structure TrackerInv (s : State) : Prop where
  tagCount : s.tracker.tags.length = 32
  tagRange : ∀ e ∈ s.tracker.inFlight, e.tag < 32
  tagsDistinct : (s.tracker.inFlight.map (·.tag)).Nodup
  tagsAgree : ∀ t, s.tracker.tags[t]? = some .inFlight ↔ ∃ e ∈ s.tracker.inFlight, e.tag = t
  limit : s.tracker.inFlight.length ≤ s.params.inflightLimit
  lastTag : s.tracker.lastTag < 32
  cursor : ∀ i, s.tracker.cursor = some i → i < s.params.programLength ∧ s.intake.link.state = .up
  waiting : (s.tracker.inFlight.filter (fun e => e.remaining.isNone)).map (·.tag) =
    UpFrame.convertTags s.intake.lane ++ s.tracker.converts.map (·.tag)

/-- A window's fields agree (R114). -/
structure WindowInv (x : Window) (current : Bool) : Prop where
  openRoom : x.opened = true → x.filled < x.size
  filled : x.filled ≤ x.size
  closePending : x.closePending = true → x.opened = true ∧ current = true

/-- The record frame in transmission with a payload belongs to the head record and fits the current window (R117, R125). -/
structure FrameInv (s : State) (f : RecordFrame) : Prop where
  window : f.window = s.delivery.current ∧ (s.delivery.window f.window).opened = true
  room : (s.delivery.window f.window).filled + f.payload.length ≤ (s.delivery.window f.window).size
  count : 1 ≤ f.payload.length ∧ f.payload.length ≤ 32
  head : ∃ q rest, s.delivery.queue = q :: rest ∧ f.recordId = q.header.id ∧ f.recordOffset = s.delivery.position ∧
    f.payload = q.cells.take f.payload.length ∧ f.payload.length ≤ q.cells.length ∧
    (f.last = true → f.payload.length = q.cells.length ∧ q.discarded = false) ∧
    (f.last = false → q.discarded = false → f.payload.length < q.cells.length) ∧
    (q.discarded = true → f.payload.length = q.cells.length)

/-- The Delivery Unit's queue, windows, position and frame under way agree (R113, R114, R117, R119, R125). -/
structure DeliveryInv (s : State) : Prop where
  windowA : WindowInv s.delivery.windowA (s.delivery.current = .a)
  windowB : WindowInv s.delivery.windowB (s.delivery.current = .b)
  cells : ∀ q ∈ s.delivery.queue, q.cells ≠ []
  discardedHead : ∀ q ∈ s.delivery.queue.tail, q.discarded = false
  discarded : ∀ q, s.delivery.queue.head? = some q → q.discarded = true →
    ∃ f, s.frameUnderWay = some f ∧ f.abandoned = false
  position : s.delivery.queue = [] ∨ s.delivery.note.isSome → s.delivery.position = 0
  frame : ∀ f, s.frameUnderWay = some f → f.abandoned = false → FrameInv s f ∧ s.delivery.note = none
  abandoned : ∀ f, s.frameUnderWay = some f → f.abandoned = true →
    f.payload = [] ∧ f.last = true ∧ s.delivery.note.isSome ∧ f.window = s.delivery.current ∧
      (s.delivery.window f.window).opened = true
  pendingFrame : (s.delivery.window s.delivery.current).closePending = true → s.frameUnderWay.isSome

/-- A record counts against the Delivery Queue's places while it is open (R113). -/
def CaptureController.openCount (c : CaptureController) : Nat := if c.openRecord.isSome then 1 else 0

/-- The capture state agrees with the history ring, the header reservation, the open record, the halt cause, the quota
and the run (R23, R81, R82, R87, R89, R97, R100, R104, R105, R108). -/
structure CaptureInv (s : State) : Prop where
  post : s.capture.state = .post ↔ s.capture.openRecord.isSome
  reservation : s.memory.reservation = if s.capture.state.armed then 4 else 0
  history : s.capture.state.armed = false → s.memory.history = []
  filling : s.capture.state = .filling → s.memory.history.length < s.params.pretriggerSweeps
  ready : s.capture.state = .ready → s.memory.history.length = s.params.pretriggerSweeps
  haltCause : s.capture.haltCause = .none ↔ s.capture.state ≠ .halted
  quota : s.capture.state.armed = true ∨ s.capture.state = .post → 1 ≤ s.capture.quota
  haltedRun : s.capture.state = .halted → s.sweeper.run = .stopped ∨ s.sweeper.run = .stopping
  postRun : s.capture.state = .post → s.sweeper.run ≠ .stopped
  queueRoom : s.delivery.queue.length + s.capture.openCount ≤ 16
  armedRoom : s.capture.state.armed = true → s.delivery.queue.length < 16
  block : s.memory.current.isSome → s.sweeper.sweep.isSome
  postStored : s.capture.state = .post → s.sweeper.sweep.isSome → s.memory.current.isSome
  blockSize : ∀ b ∈ s.memory.history ++ s.memory.current.toList, b.cells.length = s.sweeper.fixedS
  openBlocks : ∀ r, s.capture.openRecord = some r →
    r.s = s.sweeper.fixedS ∧ (∀ b ∈ r.blocks, b.cells.length = r.s) ∧
    1 ≤ r.postRemaining ∧ r.postRemaining ≤ s.params.posttriggerSweeps ∧
    r.blocks.length = r.preBlocks + (if r.headLost then 0 else 1) + r.postStored s.params.posttriggerSweeps

/-- The cells of the open record: four of header and those of its blocks (R71). -/
def CaptureController.openCells (c : CaptureController) : Nat :=
  match c.openRecord with
  | some r => Config.headerCells + blocksCost r.blocks
  | none => 0

/-- The cells of the queued records (R71). -/
def DeliveryUnit.queuedCells (d : DeliveryUnit) : Nat := (d.queue.map (fun q => q.cells.length)).sum

/-- The cells of the current sweep block (R71). -/
def CaptureMemory.currentCells (m : CaptureMemory) : Nat :=
  match m.current with
  | some b => b.cost
  | none => 0

/-- The cells of the queued records are those their headers count: all of them for a record that waits, all but those sent
for the head record, unless a discard has taken it (R74, R98, R117). -/
structure RecordsInv (s : State) : Prop where
  head : ∀ q, s.delivery.queue.head? = some q → q.discarded = false →
    q.cells.length + s.delivery.position = q.header.total
  waiting : ∀ q ∈ s.delivery.queue.tail, q.cells.length = q.header.total

/-- The Sweep Program holds 128 entries and the Trigger Condition table 8 conditions (R1, R48). -/
structure TablesInv (s : State) : Prop where
  program : s.sweeper.program.length = 128
  conditions : s.trigger.conditions.length = 8

/-- A condition's fields are such as WRITE_CONDITION takes, its run count is below its qualify count and 0 unless it is
READY, and it stands in the fire record with its own role, which is not OFF (R48, R49, R53, R55). -/
structure ConditionInv (c : Condition) : Prop where
  hysteresis : c.hysteresis ≤ 4095
  qualifyCount : 1 ≤ c.qualifyCount ∧ c.qualifyCount ≤ 16
  band : c.low.toInt ≤ c.high.toInt
  test : c.test.forLine = c.source.isLine
  entry : ∀ i, c.source = .entry i → i ≤ 127
  runCount : c.runCount < c.qualifyCount
  counting : c.readiness ≠ .ready → c.runCount = 0
  fired : ∀ r, c.fired = some r → r = c.role ∧ r ≠ .off

/-- The Trigger Unit agrees with itself and with capture: while armed the stage is OPEN exactly when no condition has role
QUALIFY, a window is 1 to 255, the forced flag stands only while armed, and TRIGOUT is low in OFF, high exactly in POST in
LEVEL, and high exactly while the pulse timer runs in PULSE (R56, R59, R62, R67, R68). -/
structure TriggerInv (s : State) : Prop where
  conditions : ∀ c ∈ s.trigger.conditions, ConditionInv c
  stage : s.capture.state.armed = true →
    (s.trigger.stage = .openStage ↔ ∀ c ∈ s.trigger.conditions, c.role ≠ .qualify)
  window : ∀ w, s.trigger.stage = .qualified w → 1 ≤ w ∧ w ≤ 255
  forced : s.trigger.forced = true → s.capture.state.armed = true
  off : s.params.trigoutMode = .off → s.trigger.trigout = false
  level : s.params.trigoutMode = .level → (s.trigger.trigout = true ↔ s.capture.state = .post)
  pulse : s.params.trigoutMode = .pulse → s.trigger.trigout = s.trigger.pulse.isSome
  pulseTime : ∀ n, s.trigger.pulse = some n → n ≤ 10 ∧ s.params.trigoutMode = .pulse

/-- Every cell of the store is in exactly one holding: the counts add up to 8192 (R71). -/
def StoreInv (s : State) : Prop :=
  s.memory.free + blocksCost s.memory.history + s.memory.currentCells + s.capture.openCells + s.delivery.queuedCells +
    s.memory.reservation = 8192

/-- A lane that can start a frame leaves no frame waiting for it (R168). -/
structure Settled (s : State) : Prop where
  up : s.upLaneFree = true → s.intake.forward = [] ∧ s.tracker.converts = []
  down : s.downLaneFree = true → s.manager.responses = [] ∧ s.deliveryPort.passback = [] ∧ s.notices.queue = [] ∧
    s.offersRecord = false

/-- Everything above at once. -/
structure Inv (s : State) : Prop where
  params : ParamsInv s
  queues : QueuesInv s
  ports : PortsInv s
  run : RunInv s
  tracker : TrackerInv s
  delivery : DeliveryInv s
  capture : CaptureInv s
  store : StoreInv s
  records : RecordsInv s
  tables : TablesInv s
  trigger : TriggerInv s

/-! ## Words the statements use -/

/-- A request executes next: it stands at the front of the Request Queue with `rest` behind it, and no RESET_ENGINE is
deferred (R149). -/
structure Executes (s : State) (r : Request) (rest : List Request) : Prop where
  front : s.manager.requests = r :: rest
  free : ∀ q, s.manager.deferred ≠ .resetEngine q

/-- The request has left the Request Queue, and its response stands last in the Response Queue (R149, R150, R153, R154). -/
def State.answered (s : State) (r : Request) (rest : List Request) (status : Status) (payload : List Word) : State :=
  { s with
    manager.requests := rest
    manager.responses :=
      s.manager.responses ++ [{ destination := r.source, tag := r.tag, kind := r.kind, status, payload }] }

/-- A refusal at arrival: the response when the total is below 12, else the request is dropped and counted (R145). -/
def State.turnedAway (s : State) (r : Request) (status : Status) : State :=
  if s.manager.requests.length + s.manager.deferred.count + s.manager.responses.length < 12 then
    { s with
      manager.responses :=
        s.manager.responses ++ [{ destination := r.source, tag := r.tag, kind := r.kind, status, payload := [] }] }
  else { s with counters.droppedRequests := satAdd s.counters.droppedRequests 1 }

/-- The number of arguments the catalogue gives for a kind (R149, the catalogue of 08). -/
def argCount : Nat → Nat
  | 1 | 4 | 6 | 10 | 16 | 17 | 18 => 1
  | 3 => 2
  | 5 => 5
  | 9 => 9
  | 15 => 4
  | _ => 0

/-- The range of a parameter, a named value as its code (R155, R179). -/
def Param.range : Param → Nat × Nat
  | .sweepPeriod => (2, 16777215)
  | .startMode | .startEdge | .earlyTrigger | .quotaRepeat => (0, 1)
  | .burstSweeps | .captureQuota | .qualifyWindow => (1, 255)
  | .sweepLimit => (0, 65535)
  | .programLength => (1, 128)
  | .entrySpacing | .pretriggerSweeps => (0, 255)
  | .inflightLimit => (1, 8)
  | .replyTimeout => (1, 1023)
  | .posttriggerSweeps => (1, 65535)
  | .trigoutMode => (0, 2)

/-- The state in which a parameter may be written (R155). -/
def Param.writtenWhile (p : Param) (s : State) : Prop :=
  match p with
  | .sweepPeriod | .entrySpacing | .quotaRepeat | .trigoutMode => True
  | .startMode | .startEdge | .burstSweeps | .sweepLimit | .programLength | .inflightLimit | .replyTimeout =>
    s.sweeper.run = .stopped
  | .pretriggerSweeps | .posttriggerSweeps | .earlyTrigger | .captureQuota | .qualifyWindow => s.capture.state = .idle

/-- A value lies in the range of a parameter (R155). -/
def Param.admits (p : Param) (v : Word) : Prop := p.range.1 ≤ v.toNat ∧ v.toNat ≤ p.range.2

/-- The arguments WRITE_CONDITION takes: every field in its range, the test of the source's kind, an entry source below
PROGRAM_LENGTH, low not above high (R64, R179). -/
structure ConditionArgs (programLength : Nat) (num role src tst thr lo hi hys cnt : Word) : Prop where
  number : num.toNat ≤ 7
  roleCode : role.toNat ≤ 2
  source : src.toNat ≤ 127 ∨ src.toNat = 256 ∨ src.toNat = 257
  test : tst.toNat ≤ 5
  threshold : -32768 ≤ thr.toInt ∧ thr.toInt ≤ 32767
  low : -32768 ≤ lo.toInt ∧ lo.toInt ≤ 32767
  high : -32768 ≤ hi.toInt ∧ hi.toInt ≤ 32767
  hysteresis : hys.toNat ≤ 4095
  qualifyCount : 1 ≤ cnt.toNat ∧ cnt.toNat ≤ 16
  agrees : src.toNat ≤ 127 ↔ tst.toNat ≤ 3
  inUse : src.toNat ≤ 127 → src.toNat < programLength
  band : lo.toInt ≤ hi.toInt

end Sys2Proof.Machine
end

