-- ==== Sys2Proof/Certificates/Slice0/Obligations.lean ====
section
/-! DEFINITION. The statements for the provers, in the order of OBLIGATIONS.json. -/

open Sys2Proof Sys2Proof.Machine

/-! ## The machine -/

/-- A step with a command in front of the queue is that command with the queue's rest (log entry 1). -/
def Obligations.StepRunsTheFrontCommand : Prop :=
  ∀ (c : Instr) (rest : List Instr) (s : State), s.pending = c :: rest → step s = exec c { s with pending := rest }

/-- No command faults or is refused; the queue and the count of choices stay, and the clock but at hard reset. -/
def Obligations.EveryCommandAnswersNext : Prop :=
  ∀ (c : Instr) (s : State), ∃ t, exec c s = .next t ∧ t.pending = s.pending ∧ t.choices = s.choices ∧
    ((∀ straps level, c ≠ .hardReset straps level) → t.clock = s.clock)

/-- On an empty queue a RESET_ENGINE that may complete goes first, then one of the events that are due, and with nothing
due one REFCLK cycle passes, of which every twenty-fifth is a tick that counts every timer down. What is due: the front
request, an end of a frame all of whose bytes have gone, an expired pacer, spacing timer, quarantine or pulse timer, and the
oldest of the requests whose time has run out (R6, R27, R30, R34, R40, R67, R149, R160, R168; the model's own steps and
clock: log entries 1, 2 and 3). That a due event carries the levels last seen is the model's choice (log entry 5). -/
def Obligations.TicksCountEveryTimerDown : Prop :=
  (∀ s : State,
      (s.resetDue = true ↔
        (∃ r, s.manager.deferred = .resetEngine r) ∧ s.intake.lane = none ∧ s.deliveryPort.lane = none) ∧
      (s.pending = [] → s.resetDue = true → step s = .next { s with pending := [.resetEffects] }) ∧
      (s.pending = [] → s.resetDue = false → s.eventsDue ≠ [] →
        ∃ c ∈ s.eventsDue, step s = .next { s with pending := [c], choices := s.choices + 1 })) ∧
  (∀ (s : State) (c : Instr), c ∈ s.eventsDue ↔
      (∃ r rest, Executes s r rest ∧ c = requestCommand r.kind s.lines) ∨
      (s.intake.cycles = 0 ∧ (∃ f, s.intake.lane = some (.convert f)) ∧ c = .convertSent) ∨
      (s.intake.cycles = 0 ∧ (∃ r, s.intake.lane = some (.forward r)) ∧ c = .frameTransmissionEnd .intake) ∨
      (s.deliveryPort.cycles = 0 ∧ s.frameUnderWay ≠ none ∧ c = .recordFrameEnd) ∨
      (s.deliveryPort.cycles = 0 ∧ s.deliveryPort.lane ≠ none ∧ s.frameUnderWay = none ∧
        c = .frameTransmissionEnd .delivery) ∨
      (s.sweeper.pacer = some 0 ∧ c = .pacerExpiry s.lines) ∨
      (s.tracker.spacing = some 0 ∧ c = .spacingTimerExpiry s.lines) ∨
      (∃ older e newer, s.tracker.inFlight = older ++ e :: newer ∧ (∀ x ∈ older, x.remaining ≠ some 0) ∧
        e.remaining = some 0 ∧ c = .requestTimeout (Fin.ofNat 32 e.tag) s.lines) ∨
      (∃ t : Fin 32, s.tracker.tags[t.val]? = some (.quarantined 0) ∧ c = .quarantineExpiry t s.lines) ∨
      (s.trigger.pulse = some 0 ∧ c = .trigoutPulseExpiry)) ∧
  ∀ s : State, s.pending = [] → s.resetDue = false → s.eventsDue = [] →
    let u : State := { s with intake.cycles := s.intake.cycles - 1, deliveryPort.cycles := s.deliveryPort.cycles - 1 }
    (s.clock.phase + 1 < 25 → step s = .next { u with clock.phase := s.clock.phase + 1 }) ∧
    (25 ≤ s.clock.phase + 1 → step s = .next
      { u with
        clock.tick := s.clock.tick + 1
        clock.phase := 0
        sweeper.pacer := s.sweeper.pacer.map (· - 1)
        tracker.spacing := s.tracker.spacing.map (· - 1)
        tracker.inFlight := s.tracker.inFlight.map (fun e => { e with remaining := e.remaining.map (· - 1) })
        tracker.tags := s.tracker.tags.map (fun x => match x with
          | .quarantined n => .quarantined (n - 1)
          | .free => .free
          | .inFlight => .inFlight)
        trigger.pulse := s.trigger.pulse.map (· - 1) })

/-- After every command the arbiters choose: a lane starts a frame only with its link UP, nothing in transmission and the
hold clear, the upstream one first; no lane that can start a frame leaves one waiting (R168). They touch the lanes, the
turn counts and the queues frames wait in, and nothing else. A frame that starts lasts two cycles for each of its bytes
(R168; the cycle: log entry 2). -/
def Obligations.ArbitersActAfterEveryCommand : Prop :=
  (∀ s : State,
      let a : State := if s.intake.forward = [] then { s with intake.turn := 0 } else s
      let b := if a.intake.link.state = .up ∧ a.intake.lane = none ∧ a.manager.resetHold = false then chooseUp a else a
      let c : State := if b.offersRecord = true then b else { b with deliveryPort.turn := 0 }
      settle s = if c.deliveryPort.link.state = .up ∧ c.deliveryPort.lane = none ∧ c.manager.resetHold = false
        then chooseDown c else c) ∧
  (∀ (c : Instr) (s t : State), exec c s = .next t → Settled t) ∧
  (∀ s : State, settle s =
      { s with
        tracker.converts := (settle s).tracker.converts
        manager.responses := (settle s).manager.responses
        notices := (settle s).notices
        intake := { (settle s).intake with link := s.intake.link }
        deliveryPort := { (settle s).deliveryPort with link := s.deliveryPort.link } }) ∧
  (∀ (s : State) (k : Nat),
      (∀ f : UpFrame, startUp f k s =
        { s with intake.lane := some f, intake.cycles := 2 * ((f.raw s.manager.node).payload.length + 6), intake.turn := k }) ∧
      (∀ f : DownFrame, startDown f k s =
        { s with deliveryPort.lane := some f, deliveryPort.cycles := 2 * ((f.raw s.manager.node).payload.length + 6),
                 deliveryPort.turn := k }))

/-! ## What every step keeps -/

/-- The invariant holds after reset, whatever the straps and the start line say. -/
def Obligations.InvariantHoldsAtReset : Prop :=
  Inv State.reset ∧ ∀ (straps : BitVec 4) (level : Bool), Inv (State.afterReset (nodeOfStraps straps) level)

/-- Every step keeps every parameter in its range (R155). -/
def Obligations.ParametersStayInRange : Prop :=
  ∀ s t : State, ParamsInv s → step s = .next t → ParamsInv t

/-- Every step keeps the bounds of the queues and buffers (R130, R132, R144, R148, R169, R170). -/
def Obligations.QueuesStayBounded : Prop :=
  ∀ s t : State, QueuesInv s → step s = .next t → QueuesInv t

/-- Every step keeps the ports consistent: nothing in transmission on a link that is not UP (R163, R168, R173). -/
def Obligations.PortsStayConsistent : Prop :=
  ∀ s t : State, PortsInv s → step s = .next t → PortsInv t

/-- Every step keeps the run state, the sweep, the pacer and the deferred slot in agreement (R6, R17, R28, R151); the sizes
of the Sweep Program and of the condition table (R1, R48); and the conditions, the stage, the forced flag, the pulse timer
and TRIGOUT in agreement with each other and with capture (R48, R49, R55, R56, R59, R62, R67, R68). -/
def Obligations.RunStateAgreesWithTheSweep : Prop :=
  (∀ s t : State, RunInv s → step s = .next t → RunInv t) ∧
  (∀ s t : State, TablesInv s → step s = .next t → TablesInv t) ∧
  (∀ s t : State, TriggerInv s → CaptureInv s → ParamsInv s → step s = .next t → TriggerInv t)

/-- Every step keeps the tags, the in-flight table and the CONVERT frames in agreement (R26, R27, R33). -/
def Obligations.TagsAgreeWithTheInFlightTable : Prop :=
  ∀ s t : State, TrackerInv s → ParamsInv s → RunInv s → step s = .next t → TrackerInv t

/-- Every step keeps the Delivery Queue, the windows and the frame under way in agreement (R113, R114, R117, R125). -/
def Obligations.DeliveryAgreesWithItsWindows : Prop :=
  ∀ s t : State, DeliveryInv s → step s = .next t → DeliveryInv t

/-- Every step keeps every cell of the store in exactly one holding, the capture state as it is tabled, and the cells of
every queued record those its header counts, less those of the head record that were sent (R71, R74, R87, R117). -/
def Obligations.EveryCellIsInOneHolding : Prop :=
  ∀ s t : State, CaptureInv s → StoreInv s → ParamsInv s → RunInv s → DeliveryInv s → step s = .next t →
    CaptureInv t ∧ StoreInv t ∧ (RecordsInv s → RecordsInv t)

/-! ## The requests -/

/-- ECHO carries its argument back and changes nothing (R158). -/
def Obligations.EchoReturnsItsArgument : Prop :=
  ∀ (s : State) (r : Request) (rest : List Request) (value : Word), Executes s r rest → r.kind = 1 → r.args = [value] →
    exec .echo s = .next (settle (s.answered r rest .done [value]))

/-- READ_STATUS carries the 36 words of the report and changes nothing (R157, R177). -/
def Obligations.StatusReportCarriesTheState : Prop :=
  ∀ (s : State) (r : Request) (rest : List Request), Executes s r rest → r.kind = 2 → r.args = [] →
    exec .readStatus s = .next (settle (s.answered r rest .done
      [ word s.sweeper.run.code, s.sweeper.sweepNumber, word s.sweeper.fixedS,
        word s.capture.state.code, word s.capture.haltCause.code, word s.capture.quota, s.capture.nextId.setWidth 32,
        word s.trigger.stage.code, word (match s.trigger.stage with
          | .qualified w => w
          | .openStage | .awaitQualifier => 0),
        word s.memory.free, word s.memory.history.length, word s.delivery.queue.length,
        flagWord s.delivery.windowA.opened, word s.delivery.windowA.size, word s.delivery.windowA.filled,
        s.delivery.windowA.tag.setWidth 32, flagWord s.delivery.windowA.endAtRecord,
        flagWord s.delivery.windowB.opened, word s.delivery.windowB.size, word s.delivery.windowB.filled,
        s.delivery.windowB.tag.setWidth 32, flagWord s.delivery.windowB.endAtRecord,
        word s.delivery.current.code,
        word (s.tracker.tags.count .free), word (s.tracker.tags.count .inFlight),
        word (s.tracker.tags.countP TagState.isQuarantined), word s.tracker.inFlight.length,
        word rest.length, word s.manager.deferred.code, word s.manager.responses.length,
        word s.notices.queue.length, word s.deliveryPort.passback.length, word s.intake.forward.length,
        word s.intake.link.state.code, word s.deliveryPort.link.state.code, s.manager.node.setWidth 32 ]))

/-- SET_PARAMETER checks the parameter, the state and the range, in that order, and then puts the value in force, leaving every
other parameter and the rest of the engine (R155); a write of TRIGOUT_MODE also acts on the line and the pulse timer at
once (R68).
The pulse timer set idle by a write of PULSE from OFF or LEVEL is the model's (log entry 14). -/
def Obligations.SetParameterChecksThenPutsInForce : Prop :=
  (∀ (s : State) (r : Request) (rest : List Request) (code v : Word), Executes s r rest → r.kind = 3 → r.args = [code, v] →
      let table : List Param :=
        [ .sweepPeriod, .startMode, .startEdge, .burstSweeps, .sweepLimit, .programLength, .entrySpacing, .inflightLimit,
          .replyTimeout, .pretriggerSweeps, .posttriggerSweeps, .earlyTrigger, .captureQuota, .quotaRepeat,
          .qualifyWindow, .trigoutMode ]
      (code.toNat = 0 ∨ 16 < code.toNat → exec .setParameter s = .next (settle (s.answered r rest .badValue []))) ∧
      (∀ p, 1 ≤ code.toNat → table[code.toNat - 1]? = some p →
        (¬ p.writtenWhile s → exec .setParameter s = .next (settle (s.answered r rest .badState []))) ∧
        (p.writtenWhile s → ¬ p.admits v → exec .setParameter s = .next (settle (s.answered r rest .badValue []))) ∧
        (p.writtenWhile s → p.admits v → p ≠ .trigoutMode →
          ∃ ps : Params, ps.get p = v.toNat ∧ (∀ q, q ≠ p → ps.get q = s.params.get q) ∧
            exec .setParameter s = .next (settle { s.answered r rest .done [code, v] with params := ps })))) ∧
  (∀ (s : State) (r : Request) (rest : List Request) (v : Word), Executes s r rest → r.kind = 3 → r.args = [16, v] →
      let a := s.answered r rest .done [16, v]
      (v = 0 → exec .setParameter s = .next (settle
        { a with params.trigoutMode := .off, trigger.trigout := false, trigger.pulse := none })) ∧
      (v = 2 → exec .setParameter s = .next (settle
        { a with params.trigoutMode := .level, trigger.trigout := decide (s.capture.state = .post), trigger.pulse := none })) ∧
      (v = 1 → s.params.trigoutMode = .pulse → exec .setParameter s = .next (settle a)) ∧
      (v = 1 → s.params.trigoutMode ≠ .pulse → exec .setParameter s = .next (settle
        { a with params.trigoutMode := .pulse, trigger.trigout := false, trigger.pulse := none })))

/-- GET_PARAMETER carries the parameter and the value in force, a named value as its code, and changes nothing
(R156, R179). -/
def Obligations.GetParameterReturnsTheValueInForce : Prop :=
  ∀ (s : State) (r : Request) (rest : List Request) (code : Word), Executes s r rest → r.kind = 4 → r.args = [code] →
    (code.toNat = 0 ∨ 16 < code.toNat → exec .getParameter s = .next (settle (s.answered r rest .badValue []))) ∧
    (∀ value, 1 ≤ code.toNat →
      [ s.params.sweepPeriod,
        match s.params.startMode with
          | .freeRun => 0
          | .lineStart => 1,
        match s.params.startEdge with
          | .rising => 0
          | .falling => 1,
        s.params.burstSweeps, s.params.sweepLimit, s.params.programLength, s.params.entrySpacing, s.params.inflightLimit,
        s.params.replyTimeout, s.params.pretriggerSweeps, s.params.posttriggerSweeps,
        if s.params.earlyAccept then 1 else 0, s.params.captureQuota, if s.params.quotaRepeat then 1 else 0,
        s.params.qualifyWindow,
        match s.params.trigoutMode with
          | .off => 0
          | .pulse => 1
          | .level => 2 ][code.toNat - 1]? = some value →
      exec .getParameter s = .next (settle (s.answered r rest .done [code, word value])))

/-- WRITE_PROGRAM_ENTRY checks the run state, then every range, and then replaces the entry's four fields (R4).
READ_PROGRAM_ENTRY carries the index, the entry's fields and whether the index is in use; nothing changes (R5). -/
def Obligations.ProgramEntriesAreWrittenAndRead : Prop :=
  (∀ (s : State) (r : Request) (rest : List Request) (i u c k st : Word), Executes s r rest → r.kind = 5 →
      r.args = [i, u, c, k, st] →
      let inRange := i.toNat ≤ 127 ∧ u.toNat ≤ 15 ∧ c.toNat ≤ 15 ∧ k.toNat ≤ 15 ∧ st.toNat ≤ 1
      (s.sweeper.run ≠ .stopped → exec .writeProgramEntry s = .next (settle (s.answered r rest .badState []))) ∧
      (s.sweeper.run = .stopped → ¬ inRange → exec .writeProgramEntry s = .next (settle (s.answered r rest .badValue []))) ∧
      (s.sweeper.run = .stopped → inRange → exec .writeProgramEntry s = .next (settle
        { s.answered r rest .done [] with
          sweeper.program := s.sweeper.program.set i.toNat ⟨u.setWidth 4, c.setWidth 4, k.setWidth 4, decide (st = 1)⟩ }))) ∧
  (∀ (s : State) (r : Request) (rest : List Request) (i : Word), Executes s r rest → r.kind = 6 → r.args = [i] →
      (127 < i.toNat → exec .readProgramEntry s = .next (settle (s.answered r rest .badValue []))) ∧
      (∀ e, s.sweeper.program[i.toNat]? = some e → i.toNat ≤ 127 →
        exec .readProgramEntry s = .next (settle (s.answered r rest .done
          [i, e.unit.setWidth 32, e.channel.setWidth 32, e.setting.setWidth 32, if e.store then 1 else 0,
            if i.toNat < s.params.programLength then 1 else 0]))))

/-- START_RUN refuses when the run is not STOPPED or capture is HALTED, and then when a condition that is not OFF names an
entry beyond the program (R8). Accepted, S is counted and fixed, the counts and causes of the last run are cleared, every
condition is UNKNOWN, the history is discarded and armed capture starts afresh; the run is RUNNING with its first sweep
started, or WAITING_LINE; DONE carries S and the cost (R9, R66, R109).
The levels come with the command (log entry 5), the reference level stands already (log entry 15). -/
def Obligations.StartRunChecksThenOpensTheRun : Prop :=
  (∀ (s : State) (r : Request) (rest : List Request) (lines : Lines), Executes s r rest → r.kind = 7 → r.args = [] →
      (s.sweeper.run ≠ .stopped ∨ s.capture.state = .halted →
        exec (.startRun lines) s = .next (settle (s.answered r rest .badState []))) ∧
      (s.sweeper.run = .stopped → s.capture.state ≠ .halted →
        (∃ c ∈ s.trigger.conditions, c.role ≠ .off ∧ ∃ i, c.source = .entry i ∧ s.params.programLength ≤ i) →
        exec (.startRun lines) s = .next (settle (s.answered r rest .badValue [])))) ∧
  (∀ (s : State) (r : Request) (rest : List Request) (lines : Lines), Executes s r rest → r.kind = 7 → r.args = [] →
      s.sweeper.run = .stopped → s.capture.state ≠ .halted →
      (∀ c ∈ s.trigger.conditions, c.role ≠ .off → ∀ i, c.source = .entry i → i < s.params.programLength) →
      let n := ((s.sweeper.program.take s.params.programLength).filter (·.store)).length
      let armed : Prop := s.capture.state = .filling ∨ s.capture.state = .ready
      let u : State := { s with
        manager.requests := rest
        lines
        sweeper.fixedS := n
        sweeper.sweepNumber := 0
        sweeper.gapPending := false
        sweeper.endCause := none
        trigger.conditions :=
          s.trigger.conditions.map (fun c => { c with readiness := .unknown, runCount := 0, fired := none })
        trigger.stage :=
          if armed then (if s.trigger.conditions.any (fun c => c.role = .qualify) then .awaitQualifier else .openStage)
          else s.trigger.stage
        memory.history := []
        memory.free := s.memory.free + blocksCost s.memory.history
        capture.state :=
          if armed then (if s.params.pretriggerSweeps = 0 then .ready else .filling) else s.capture.state }
      (s.params.startMode = .freeRun → exec (.startRun lines) s = .next (settle (respond r .done [word n, word (2 + n)]
        (sweepStart { u with sweeper.run := .running, sweeper.pacer := some s.params.sweepPeriod })))) ∧
      (s.params.startMode = .lineStart → exec (.startRun lines) s = .next (settle (respond r .done [word n, word (2 + n)]
        { u with sweeper.run := .waitingLine, sweeper.pacer := none, sweeper.burstCount := 0 }))))

/-- STOP_RUN acts by the run state: it ends the run at once, or goes STOPPING and waits in the deferred slot, or is
answered BUSY when the slot is taken (R21, R151). -/
def Obligations.StopRunActsByRunState : Prop :=
  ∀ (s : State) (r : Request) (rest : List Request), Executes s r rest → r.kind = 8 → r.args = [] →
    let p : State := { s with manager.requests := rest }
    let going := s.sweeper.run = .running ∨ s.sweeper.run = .burst
    (s.sweeper.run = .stopped → exec .stopRun s = .next (settle (s.answered r rest .done []))) ∧
    (s.sweeper.run = .waitingLine ∨ going ∧ s.sweeper.sweep = none →
      exec .stopRun s = .next (settle (respond r .done [] (runEndReport (postNotice (.runEnded .stopRequest)
        { p with sweeper.run := .stopped, sweeper.pacer := none, sweeper.endCause := some .stopRequest }))))) ∧
    (going → s.sweeper.sweep ≠ none → s.manager.deferred = .empty →
      exec .stopRun s = .next (settle
        { p with
          sweeper.run := .stopping
          sweeper.pacer := none
          sweeper.endCause := some .stopRequest
          manager.deferred := .stopRun r })) ∧
    (s.sweeper.run = .stopping → s.manager.deferred = .empty →
      exec .stopRun s = .next (settle { p with manager.deferred := .stopRun r })) ∧
    (going ∧ s.sweeper.sweep ≠ none ∨ s.sweeper.run = .stopping → s.manager.deferred ≠ .empty →
      exec .stopRun s = .next (settle (s.answered r rest .busy [])))

/-- WRITE_CONDITION checks the capture state, then the arguments, and then replaces every field of the condition, which is
UNKNOWN, with run count 0, and out of the fire record (R64); the fields are read back as READ_CONDITION reads them. -/
def Obligations.WriteConditionReplacesTheCondition : Prop :=
  ∀ (s : State) (r : Request) (rest : List Request) (number role source test threshold low high hysteresis count : Word),
    Executes s r rest → r.kind = 9 →
    r.args = [number, role, source, test, threshold, low, high, hysteresis, count] →
    let ok := ConditionArgs s.params.programLength number role source test threshold low high hysteresis count
    let writable := s.capture.state = .idle ∨ s.capture.state = .halted
    (¬ writable → exec .writeCondition s = .next (settle (s.answered r rest .badState []))) ∧
    (writable → ¬ ok → exec .writeCondition s = .next (settle (s.answered r rest .badValue []))) ∧
    (writable → ok → ∃ c : Condition,
      c.words = [role, source, test, threshold, low, high, hysteresis, count, 0, 0, 0] ∧
      c.source = (if source = 256 then .trig0 else if source = 257 then .trig1 else .entry source.toNat) ∧
      exec .writeCondition s = .next (settle
        { s.answered r rest .done [] with trigger.conditions := s.trigger.conditions.set number.toNat c }))

/-- READ_CONDITION carries every field of the condition, its runtime state and its place in the fire record, and changes
nothing (R65, R177). -/
def Obligations.ReadConditionReturnsTheCondition : Prop :=
  ∀ (s : State) (r : Request) (rest : List Request) (n : Word), Executes s r rest → r.kind = 10 → r.args = [n] →
    (7 < n.toNat → exec .readCondition s = .next (settle (s.answered r rest .badValue []))) ∧
    (∀ c, s.trigger.conditions[n.toNat]? = some c → n.toNat ≤ 7 →
      exec .readCondition s = .next (settle (s.answered r rest .done
        [ n, word c.role.code, word c.source.code, word c.test.code, c.threshold.signExtend 32, c.low.signExtend 32,
          c.high.signExtend 32, word c.hysteresis, word c.qualifyCount, word c.readiness.code, word c.runCount,
          if c.fired.isSome then 1 else 0 ])))

/-- FORCE_TRIGGER sets the forced flag while capture is armed and is refused otherwise (R62). -/
def Obligations.ForceTriggerSetsTheFlagWhileArmed : Prop :=
  ∀ (s : State) (r : Request) (rest : List Request), Executes s r rest → r.kind = 11 → r.args = [] →
    (s.capture.state = .filling ∨ s.capture.state = .ready →
      exec .forceTrigger s = .next (settle { s.answered r rest .done [] with trigger.forced := true })) ∧
    (s.capture.state = .idle ∨ s.capture.state = .post ∨ s.capture.state = .halted →
      exec .forceTrigger s = .next (settle (s.answered r rest .badState [])))

/-- ARM is checked in its order, and accepted takes the reservation, loads the quota, sets the stage afresh and enters
READY or FILLING; DONE carries S, the cost and the full-record size (R89, R90). The history is empty in IDLE (R81). -/
def Obligations.ArmChecksThenArms : Prop :=
  ∀ (s : State) (r : Request) (rest : List Request), Executes s r rest → r.kind = 12 → r.args = [] →
    let n := if s.sweeper.run = .stopped then
      ((s.sweeper.program.take s.params.programLength).filter (·.store)).length else s.sweeper.fixedS
    let full := 4 + (s.params.pretriggerSweeps + 1 + s.params.posttriggerSweeps) * (2 + n)
    let idle := s.capture.state = .idle
    (¬ idle → exec .arm s = .next (settle (s.answered r rest .badState []))) ∧
    (idle → 8192 < full → exec .arm s = .next (settle (s.answered r rest .badValue []))) ∧
    (idle → full ≤ 8192 → s.memory.free < 4 → exec .arm s = .next (settle (s.answered r rest .noSpace []))) ∧
    (idle → full ≤ 8192 → 4 ≤ s.memory.free → 16 ≤ s.delivery.queue.length →
      exec .arm s = .next (settle (s.answered r rest .queueFull []))) ∧
    (idle → full ≤ 8192 → 4 ≤ s.memory.free → s.delivery.queue.length < 16 → s.memory.history = [] →
      exec .arm s = .next (settle
        { s.answered r rest .done [word n, word (2 + n), word full] with
          memory.free := s.memory.free - 4
          memory.reservation := 4
          capture.quota := s.params.captureQuota
          trigger.stage :=
            if s.trigger.conditions.any (fun c => c.role = .qualify) then .awaitQualifier else .openStage
          capture.state := if s.params.pretriggerSweeps = 0 then .ready else .filling }))

/-- DISARM acts by the capture state: nothing in IDLE, history and reservation freed while armed, a CUT close in POST,
refused in HALTED; the forced flag is cleared (R62, R106).
The forced flag cleared in POST is the model's reading (log entry 13). -/
def Obligations.DisarmActsByCaptureState : Prop :=
  ∀ (s : State) (r : Request) (rest : List Request), Executes s r rest → r.kind = 13 → r.args = [] →
    (s.capture.state = .idle → exec .disarm s = .next (settle (s.answered r rest .done []))) ∧
    (s.capture.state = .filling ∨ s.capture.state = .ready → exec .disarm s = .next (settle
      { s.answered r rest .done [] with
        memory.free := s.memory.free + blocksCost s.memory.history + s.memory.reservation
        memory.history := []
        memory.reservation := 0
        trigger.forced := false
        capture.state := .idle })) ∧
    (s.capture.state = .post → exec .disarm s = .next (settle (respond r .done []
      { closeRecord false true { s with manager.requests := rest } with
        trigger.forced := false
        capture.state := .idle }))) ∧
    (s.capture.state = .halted → exec .disarm s = .next (settle (s.answered r rest .badState [])))

/-- CLEAR_HALT returns a HALTED capture to IDLE with the run STOPPED, and is refused otherwise (R105). -/
def Obligations.ClearHaltNeedsTheRunStopped : Prop :=
  ∀ (s : State) (r : Request) (rest : List Request), Executes s r rest → r.kind = 14 → r.args = [] →
    (s.capture.state = .halted → s.sweeper.run = .stopped → exec .clearHalt s = .next (settle
      { s.answered r rest .done [] with capture.state := .idle, capture.haltCause := .none })) ∧
    (s.capture.state ≠ .halted ∨ s.sweeper.run ≠ .stopped →
      exec .clearHalt s = .next (settle (s.answered r rest .badState [])))

/-- OPEN_WINDOW checks the ranges, then that the window is CLOSED, and then opens it with what was given (R115). -/
def Obligations.OpenWindowOpensAClosedWindow : Prop :=
  ∀ (s : State) (r : Request) (rest : List Request) (w n t e : Word), Executes s r rest → r.kind = 15 →
    r.args = [w, n, t, e] →
    let inRange := w.toNat ≤ 1 ∧ 1 ≤ n.toNat ∧ n.toNat ≤ 65535 ∧ t.toNat ≤ 255 ∧ e.toNat ≤ 1
    let old := if w = 0 then s.delivery.windowA else s.delivery.windowB
    let x : Window := { opened := true, size := n.toNat, filled := 0, tag := t.setWidth 8, endAtRecord := decide (e = 1),
                        closePending := false }
    let a := s.answered r rest .done []
    (¬ inRange → exec .openWindow s = .next (settle (s.answered r rest .badValue []))) ∧
    (inRange → old.opened = true → exec .openWindow s = .next (settle (s.answered r rest .badState []))) ∧
    (inRange → old.opened = false → exec .openWindow s = .next (settle
      (if w = 0 then { a with delivery.windowA := x } else { a with delivery.windowB := x })))

/-- CLOSE_WINDOW acts by the window's state: pending while a frame goes into the current window, else closed at once with
early yes; the pointer moves only when the current window closes (R122).
The turn count back at 0 is the model's reading (log entry 11). -/
def Obligations.CloseWindowActsByTheWindow : Prop :=
  ∀ (s : State) (r : Request) (rest : List Request) (arg : Word), Executes s r rest → r.kind = 16 → r.args = [arg] →
    (1 < arg.toNat → exec .closeWindow s = .next (settle (s.answered r rest .badValue []))) ∧
    (∀ w : WindowId, arg = word w.code →
      let x := s.delivery.window w
      let closed : State := { s with
        manager.requests := rest
        delivery := s.delivery.setWindow w { x with opened := false, closePending := false } }
      (x.opened = false → exec .closeWindow s = .next (settle (s.answered r rest .badState []))) ∧
      (x.opened = true → w = s.delivery.current → s.frameUnderWay ≠ none → exec .closeWindow s = .next (settle
        { s.answered r rest .done [] with delivery := s.delivery.setWindow w { x with closePending := true } })) ∧
      (x.opened = true → w = s.delivery.current → s.frameUnderWay = none → exec .closeWindow s = .next (settle
        (respond r .done []
          { postNotice (.windowDone w x.tag x.filled true) closed with
            delivery.current := w.other
            deliveryPort.turn := 0 }))) ∧
      (x.opened = true → w ≠ s.delivery.current → exec .closeWindow s = .next (settle
        (respond r .done [] (postNotice (.windowDone w x.tag x.filled true) closed)))))

/-- DISCARD_RECORD takes the oldest queued record with the id: whole when it is not started; not at all with its LAST frame
in transmission; but for the frame in transmission otherwise; and refuses the open record and an unknown id (R124, R125). -/
def Obligations.DiscardRecordFreesWhatIsNotSent : Prop :=
  ∀ (s : State) (r : Request) (rest : List Request) (arg : Word), Executes s r rest → r.kind = 17 → r.args = [arg] →
    let id : BitVec 16 := arg.setWidth 16
    let a := s.answered r rest .done []
    let sending (f : RecordFrame) := s.frameUnderWay = some f ∧ f.abandoned = false
    let started := 0 < s.delivery.position ∨ ∃ f, sending f
    (65535 < arg.toNat → exec .discardRecord s = .next (settle (s.answered r rest .badValue []))) ∧
    (arg.toNat ≤ 65535 → (∀ q ∈ s.delivery.queue, q.header.id ≠ id) →
      exec .discardRecord s = .next (settle (s.answered r rest
        (if ∃ o, s.capture.openRecord = some o ∧ o.id = id then .badState else .notFound) []))) ∧
    (arg.toNat ≤ 65535 → ∀ (before after : List QueuedRecord) (q : QueuedRecord),
      s.delivery.queue = before ++ q :: after → (∀ b ∈ before, b.header.id ≠ id) → q.header.id = id →
      (before ≠ [] ∨ ¬ started → exec .discardRecord s = .next (settle
        { a with memory.free := s.memory.free + q.cells.length, delivery.queue := before ++ after })) ∧
      (before = [] → ∀ f, sending f → f.last = true → exec .discardRecord s = .next (settle a)) ∧
      (before = [] → ∀ f, sending f → f.last = false → exec .discardRecord s = .next (settle
        { a with
          memory.free := s.memory.free + (q.cells.length - f.payload.length)
          delivery.queue := { q with cells := q.cells.take f.payload.length, discarded := true } :: after })) ∧
      (before = [] → s.frameUnderWay = none → 0 < s.delivery.position → exec .discardRecord s = .next (settle
        { a with
          memory.free := s.memory.free + q.cells.length
          delivery.queue := after
          delivery.position := 0
          delivery.note := some { id, position := s.delivery.position } })))

/-- READ_COUNTERS carries clear and the fourteen counters in their order, and with clear yes sets them to 0 (R139). -/
def Obligations.ReadCountersCarriesThemAll : Prop :=
  ∀ (s : State) (r : Request) (rest : List Request) (clear : Word), Executes s r rest → r.kind = 18 → r.args = [clear] →
    let c := s.counters
    let a := s.answered r rest .done (clear ::
      [ c.intakeBadFrames, c.deliveryBadFrames, c.strayReplies, c.lateReplies, c.mismatchedReplies, c.replyTimeouts,
        c.missedSweeps, c.ignoredStartEdges, c.unstoredSweeps, c.historySpaceDrops, c.lostNotices, c.passbackDrops,
        c.forwardDrops, c.droppedRequests ].map (·.setWidth 32))
    (1 < clear.toNat → exec .readCounters s = .next (settle (s.answered r rest .badValue []))) ∧
    (clear = 0 → exec .readCounters s = .next (settle a)) ∧
    (clear = 1 → exec .readCounters s = .next (settle
      { a with counters := ⟨0, 0, 0, 0, 0, 0, 0, 0, 0, 0, 0, 0, 0, 0⟩ }))

/-- RESET_ENGINE moves to the deferred slot and sets the reset hold; a STOP_RUN in the slot is answered SUPERSEDED first
(R152, R159). That the hold stands when the arbiters choose, so that SUPERSEDED waits even on an idle delivery lane, is the
model's choice (log entry 17). -/
def Obligations.ResetEngineEntersTheSlot : Prop :=
  ∀ (s : State) (r : Request) (rest : List Request), Executes s r rest → r.kind = 19 → r.args = [] →
    let p : State := { s with manager.requests := rest, manager.deferred := .resetEngine r, manager.resetHold := true }
    (s.manager.deferred = .empty → exec .resetEngine s = .next (settle p)) ∧
    (∀ q, s.manager.deferred = .stopRun q → exec .resetEngine s = .next (settle
      { p with
        manager.responses := s.manager.responses ++
          [{ destination := q.source, tag := q.tag, kind := q.kind, status := .superseded, payload := [] }] }))

/-- A kind outside the catalogue is answered UNKNOWN_REQUEST, and a known kind with a wrong number of arguments BAD_VALUE,
both without any other effect (R149). With no such request to execute, the execution does not occur and nothing changes (the
model's choice: log entry 7). Each kind code executes as its own command (R179). -/
def Obligations.UnknownKindsAndWrongCountsAreRefused : Prop :=
  (∀ (s : State) (r : Request) (rest : List Request) (lines : Lines), Executes s r rest →
      (r.kind = 0 ∨ 19 < r.kind.toNat →
        exec .unknownRequestKind s = .next (settle (s.answered r rest .unknownRequest []))) ∧
      (1 ≤ r.kind.toNat → r.kind.toNat ≤ 19 → r.args.length ≠ argCount r.kind.toNat →
        exec (requestCommand r.kind lines) s = .next (settle (s.answered r rest .badValue [])))) ∧
  (∀ (s : State) (kind : Byte) (lines : Lines),
      (1 ≤ kind.toNat → kind.toNat ≤ 19 → (∀ r rest, Executes s r rest → r.kind ≠ kind) →
        exec (requestCommand kind lines) s = .next (settle s)) ∧
      ((∀ r rest, Executes s r rest → 1 ≤ r.kind.toNat ∧ r.kind.toNat ≤ 19) →
        exec .unknownRequestKind s = .next (settle s))) ∧
  (∀ (kind : Byte) (lines : Lines),
      (∀ c, 1 ≤ kind.toNat →
        [ Instr.echo, .readStatus, .setParameter, .getParameter, .writeProgramEntry, .readProgramEntry, .startRun lines,
          .stopRun, .writeCondition, .readCondition, .forceTrigger, .arm, .disarm, .clearHalt, .openWindow, .closeWindow,
          .discardRecord, .readCounters, .resetEngine ][kind.toNat - 1]? = some c → requestCommand kind lines = c) ∧
      (kind.toNat = 0 ∨ 19 < kind.toNat → requestCommand kind lines = .unknownRequestKind))

/-! ## Arrivals -/

/-- A request on an UP delivery link is queued, refused, dropped, forwarded, or forwarded and queued, by its destination,
the room and the intake link (R143 to R147). -/
def Obligations.RequestsAreClassedByDestination : Prop :=
  ∀ (s : State) (r : Request), r.args.length ≤ 9 → s.deliveryPort.link.state = .up →
    let b : State := { s with deliveryPort.link.badRun := 0 }
    let own (x : State) : State :=
      if s.manager.requests.length < 8 ∧
          s.manager.requests.length + s.manager.deferred.count + s.manager.responses.length < 12 then
        { x with manager.requests := s.manager.requests ++ [r] }
      else x.turnedAway r .busy
    let sent : State := { b with intake.forward := s.intake.forward ++ [r] }
    (r.destination = s.manager.node → exec (.requestArrival r) s = .next (settle (own b))) ∧
    (r.destination ≠ s.manager.node → s.intake.link.state ≠ .up →
      exec (.requestArrival r) s = .next (settle (b.turnedAway r .linkDown))) ∧
    (r.destination ≠ s.manager.node → s.intake.link.state = .up → 4 ≤ s.intake.forward.length →
      exec (.requestArrival r) s = .next (settle (b.turnedAway r .forwardFull))) ∧
    (r.destination ≠ s.manager.node → s.intake.link.state = .up → s.intake.forward.length < 4 →
      exec (.requestArrival r) s = .next (settle (if r.destination = 15 then own sent else sent)))

/-- A SAMPLE on an UP intake link is a stray, late, matched or mismatched reply, by the state of its tag and the entry that
holds it (R35 to R39).
The levels come with the command (log entry 5). -/
def Obligations.RepliesAreMatchedByTag : Prop :=
  ∀ (s : State) (f : SampleFrame) (lines : Lines), s.intake.link.state = .up →
    let b : State := { s with lines, intake.link.badRun := 0 }
    let stray : State := { b with counters.strayReplies := satAdd s.counters.strayReplies 1 }
    let tag := s.tracker.tags[f.tag.toNat]?
    let entry := s.tracker.inFlight.find? (fun e => e.tag == f.tag.toNat)
    (tag = none ∨ tag = some .free → exec (.sampleReceived f lines) s = .next (settle stray)) ∧
    (∀ n, tag = some (.quarantined n) → exec (.sampleReceived f lines) s = .next (settle (issueTest
      { b with
        counters.lateReplies := satAdd s.counters.lateReplies 1
        tracker.tags := s.tracker.tags.set f.tag.toNat .free }))) ∧
    (tag = some .inFlight → ∀ e, entry = some e →
      (e.remaining = none → exec (.sampleReceived f lines) s = .next (settle stray)) ∧
      (e.remaining ≠ none → f.unit = e.unit → f.channel = e.channel →
        exec (.sampleReceived f lines) s = .next (settle (completeRequest e
          (if f.unitFault then .missing .unitFault else .value f.value f.overRange) .free b))) ∧
      (e.remaining ≠ none → f.unit ≠ e.unit ∨ f.channel ≠ e.channel →
        exec (.sampleReceived f lines) s = .next (settle (completeRequest e (.missing .mismatch)
          (.quarantined s.params.replyTimeout)
          { b with counters.mismatchedReplies := satAdd s.counters.mismatchedReplies 1 }))))

/-- A good frame from the units that is no SAMPLE joins the passback buffer unchanged, or is dropped and counted (R166). -/
def Obligations.PassbackJoinsOrIsCounted : Prop :=
  ∀ (s : State) (f : RawFrame), f.payload.length ≤ 255 → f.check = checkOf f.covered → f.kind ≠ 2 →
    s.intake.link.state = .up →
    let b : State := { s with intake.link.badRun := 0 }
    (s.deliveryPort.passback.length < 4 → exec (.passbackReceived f) s = .next (settle
      { b with deliveryPort.passback := s.deliveryPort.passback ++ [f] })) ∧
    (4 ≤ s.deliveryPort.passback.length → exec (.passbackReceived f) s = .next (settle
      { b with counters.passbackDrops := satAdd s.counters.passbackDrops 1 }))

/-- A link takes the state, the alignment run and the bad run its table gives for each reception and for loss of signal, the
other link stays as it is, and a bad frame is counted only on an UP link (R163, R165); that a run stands as it was where
the table sets none (log entry 8), and that the alignment sequence changes nothing in ALIGNING and UP (log entry 16), is the
model's choice. An event that takes no link from UP to DOWN changes that link alone, and the intake link reaching UP posts
its notice (R163). A good frame on a link that is not UP counts for the link and is handed to no block (R163); that a frame
received while ALIGNING does not occur on a link in another state is the model's choice (log entry 7), and that the levels
come with the commands that can sample them is (log entry 5). -/
def Obligations.LinksFollowTheirTable : Prop :=
  (∀ (s : State) (p : Port) (lines : Lines),
      let l := s.link p
      let good : Link := match l.state with
        | .down => l
        | .aligning => if l.alignRun = 3 then ⟨.up, 4, 0⟩ else { l with alignRun := l.alignRun + 1 }
        | .up => { l with badRun := 0 }
      let bad : Link := match l.state with
        | .down => l
        | .aligning => { l with alignRun := 0 }
        | .up => if l.badRun = 7 then { l with state := .down, badRun := 8 } else { l with badRun := l.badRun + 1 }
      let gives (c : Instr) (x : Link) := ∃ t, exec c s = .next t ∧ t.link p = x ∧ ∀ q, q ≠ p → t.link q = s.link q
      gives (.idleAlignmentSequence p) (if l.state = .down then { l with state := .aligning, alignRun := 0 } else l) ∧
      gives (.goodIdleGroup p) good ∧
      gives (.malformedIdleGroup p lines) bad ∧
      gives (.badFrame p lines) bad ∧
      gives (.lossOfSignal p lines) { l with state := .down } ∧
      (l.state = .aligning → gives (.frameReceivedWhileAligning p true) good ∧
        gives (.frameReceivedWhileAligning p false) bad)) ∧
  (∀ (s : State) (lines : Lines),
      (∀ l : Link, ¬ (s.intake.link.state = .up ∧ l.state = .down) →
        setLink .intake l s =
          if s.intake.link.state ≠ .up ∧ l.state = .up then
            postNotice (.intakeLinkChanged true) { s with intake.link := l }
          else { s with intake.link := l }) ∧
      (∀ l : Link, ¬ (s.deliveryPort.link.state = .up ∧ l.state = .down) →
        setLink .delivery l s = { s with deliveryPort.link := l }) ∧
      (∀ p, exec (.idleAlignmentSequence p) s = .next (settle (setLink p (s.link p).align s))) ∧
      (∀ p, exec (.goodIdleGroup p) s = .next (settle (setLink p (s.link p).good s))) ∧
      (∀ p, exec (.malformedIdleGroup p lines) s = .next (settle (setLink p (s.link p).bad { s with lines }))) ∧
      (∀ p, exec (.lossOfSignal p lines) s = .next (settle (setLink p { s.link p with state := .down } { s with lines }))) ∧
      (∀ p,
        let u : State := { s with lines }
        let counted : State := match p with
          | .intake => { u with counters.intakeBadFrames := satAdd s.counters.intakeBadFrames 1 }
          | .delivery => { u with counters.deliveryBadFrames := satAdd s.counters.deliveryBadFrames 1 }
        exec (.badFrame p lines) s =
          .next (settle (setLink p (s.link p).bad (if (s.link p).state = .up then counted else u)))) ∧
      (∀ p good, (s.link p).state = .aligning → exec (.frameReceivedWhileAligning p good) s =
        .next (settle (setLink p (if good then (s.link p).good else (s.link p).bad) s))) ∧
      (∀ p good, (s.link p).state ≠ .aligning → exec (.frameReceivedWhileAligning p good) s = .next (settle s)) ∧
      (∀ f, s.intake.link.state ≠ .up → exec (.sampleReceived f lines) s =
        .next (settle (setLink .intake s.intake.link.good { s with lines }))) ∧
      (∀ f : RawFrame, s.intake.link.state ≠ .up → f.payload.length ≤ 255 → f.check = checkOf f.covered → f.kind ≠ 2 →
        exec (.passbackReceived f) s = .next (settle (setLink .intake s.intake.link.good s))) ∧
      (∀ r : Request, s.deliveryPort.link.state ≠ .up → r.args.length ≤ 9 →
        exec (.requestArrival r) s = .next (settle (setLink .delivery s.deliveryPort.link.good s))))

/-- A drop of the intake link, however it comes, loses the frame in transmission (a CONVERT's request starts its timeout),
empties the forward buffer into its counter, withdraws the queued CONVERT frames, completes the rest of the sweep as
MISSING(LINK), and posts its notice (R174, R33, R44). A drop of the delivery link loses the frame in transmission, whose end
a record frame's builder takes as any end, and empties the passback buffer into its counter (R175, R127). That the lane's
count of cycles stands as it was is the model's choice (log entry 14). -/
def Obligations.LinkDropsTakeTheirSteps : Prop :=
  (∀ (s : State) (l : Link), s.intake.link.state = .up → l.state = .down →
      let dropped (waiting : List InFlight) : State :=
        { s with
          tracker.inFlight := waiting
          intake.link := l
          intake.lane := none
          intake.turn := 0
          intake.forward := []
          counters.forwardDrops := satAdd s.counters.forwardDrops s.intake.forward.length }
      let ends (d : State) : State := postNotice (.intakeLinkChanged false) (fillRest (withdrawConverts d))
      (∀ f, s.intake.lane = some (.convert f) → setLink .intake l s = ends (dropped
        (s.tracker.inFlight.map (fun e => if e.tag = f.tag ∧ e.remaining = none then
          { e with remaining := some s.params.replyTimeout } else e)))) ∧
      ((∀ f, s.intake.lane ≠ some (.convert f)) → setLink .intake l s = ends (dropped s.tracker.inFlight))) ∧
  (∀ (s : State) (l : Link), s.deliveryPort.link.state = .up → l.state = .down →
      let d : State := { s with deliveryPort.link := l, deliveryPort.lane := none }
      let ends (x : State) : State := { x with
        counters.passbackDrops := satAdd s.counters.passbackDrops s.deliveryPort.passback.length
        deliveryPort.passback := []
        deliveryPort.turn := 0 }
      (s.frameUnderWay = none → setLink .delivery l s = ends d) ∧
      (∀ f, s.frameUnderWay = some f → setLink .delivery l s = ends (recordFrameEnded f d)))

/-! ## Timers and the ends of transmissions -/

/-- A pacer expiry reloads the pacer, or spends one of the burst's pacer events, and starts a sweep or misses one
(R13, R14, R17). That the command makes a pacer that still counts expire (log entry 10), and that the levels come with it
(log entry 5), is the model's choice. -/
def Obligations.PacerExpiryStartsOrMissesASweep : Prop :=
  ∀ (s : State) (lines : Lines), s.sweeper.pacer ≠ none →
    let running : State := { s with lines, sweeper.pacer := some s.params.sweepPeriod }
    let burst : State := { s with
      lines
      sweeper.burstCount := s.sweeper.burstCount - 1
      sweeper.pacer := if 1 < s.sweeper.burstCount then some s.params.sweepPeriod else none }
    let missed (x : State) : State :=
      { x with sweeper.gapPending := true, counters.missedSweeps := satAdd s.counters.missedSweeps 1 }
    (s.sweeper.run = .running → s.sweeper.sweep = none →
      exec (.pacerExpiry lines) s = .next (settle (sweepStart running))) ∧
    (s.sweeper.run = .running → s.sweeper.sweep ≠ none → exec (.pacerExpiry lines) s = .next (settle (missed running))) ∧
    (s.sweeper.run = .burst → s.sweeper.sweep = none → exec (.pacerExpiry lines) s = .next (settle (sweepStart burst))) ∧
    (s.sweeper.run = .burst → s.sweeper.sweep ≠ none → exec (.pacerExpiry lines) s = .next (settle (missed burst)))

/-- A change of level on SWEEP_START is a start edge when it has START_EDGE's polarity, and is acted on by the run state:
it begins a burst, is ignored and counted, or has no effect (R15, R16).
The levels come with the command (log entry 5). -/
def Obligations.StartEdgesActByRunState : Prop :=
  ∀ (s : State) (level : Bool) (lines : Lines), level ≠ s.sweeper.startLevel →
    let u : State := { s with lines, sweeper.startLevel := level }
    let startEdge := (level = true ↔ s.params.startEdge = .rising)
    (¬ startEdge → exec (.sweepStartEdge level lines) s = .next (settle u)) ∧
    (startEdge → s.sweeper.run = .waitingLine → exec (.sweepStartEdge level lines) s = .next (settle (sweepStart
      { u with
        sweeper.run := .burst
        sweeper.burstCount := s.params.burstSweeps - 1
        sweeper.pacer := if 1 < s.params.burstSweeps then some s.params.sweepPeriod else none }))) ∧
    (startEdge → s.sweeper.run = .burst ∨ s.sweeper.run = .stopping → exec (.sweepStartEdge level lines) s = .next (settle
      { u with counters.ignoredStartEdges := satAdd s.counters.ignoredStartEdges 1 })) ∧
    (startEdge → s.sweeper.run = .stopped ∨ s.sweeper.run = .running →
      exec (.sweepStartEdge level lines) s = .next (settle u))

/-- The spacing timer's expiry and a quarantine's end make the issue test; the pulse timer's expiry takes TRIGOUT low
(R29, R30, R40, R67). The end of a CONVERT frame starts its request's timeout; the end of any other frame but a record
frame clears its lane and nothing else (R33, R168). An expiry, an edge, an end or reset effects that cannot occur in the
state change nothing but the levels they bring. That last, that an expiry or an end taken while its count still runs takes
effect then, and that a lane's count of cycles stands as it was, is the model's choice (log entries 7, 10 and 14), and that
the levels come with the commands that can sample them is, in the expiries that take effect too (log entry 5). -/
def Obligations.ExpiriesAndFrameEndsTakeEffect : Prop :=
  (∀ (s : State) (lines : Lines),
      (s.tracker.spacing ≠ none → exec (.spacingTimerExpiry lines) s = .next (settle (issueTest
        { s with lines, tracker.spacing := none }))) ∧
      (∀ (t : Fin 32) (n : Nat), s.tracker.tags[t.val]? = some (.quarantined n) →
        exec (.quarantineExpiry t lines) s = .next (settle (issueTest
          { s with lines, tracker.tags := s.tracker.tags.set t.val .free }))) ∧
      (s.trigger.pulse ≠ none → exec .trigoutPulseExpiry s = .next (settle
        { s with trigger.trigout := false, trigger.pulse := none }))) ∧
  (∀ s : State,
      (∀ f, s.intake.lane = some (.convert f) → exec .convertSent s = .next (settle
        { s with
          intake.lane := none
          tracker.inFlight := s.tracker.inFlight.map (fun e => if e.tag = f.tag ∧ e.remaining = none then
            { e with remaining := some s.params.replyTimeout } else e) })) ∧
      (∀ r, s.intake.lane = some (.forward r) → exec (.frameTransmissionEnd .intake) s = .next (settle
        { s with intake.lane := none })) ∧
      (s.deliveryPort.lane ≠ none → s.frameUnderWay = none → exec (.frameTransmissionEnd .delivery) s = .next (settle
        { s with deliveryPort.lane := none }))) ∧
  (∀ (s : State) (lines : Lines),
      let u : State := { s with lines }
      (s.sweeper.pacer = none ∨ s.sweeper.run = .stopped ∨ s.sweeper.run = .waitingLine ∨ s.sweeper.run = .stopping →
        exec (.pacerExpiry lines) s = .next (settle u)) ∧
      exec (.sweepStartEdge s.sweeper.startLevel lines) s = .next (settle u) ∧
      (s.tracker.spacing = none → exec (.spacingTimerExpiry lines) s = .next (settle u)) ∧
      (∀ t : Fin 32, (∀ e, s.tracker.inFlight.find? (fun x => x.tag == t.val) = some e → e.remaining = none) →
        exec (.requestTimeout t lines) s = .next (settle u)) ∧
      (∀ t : Fin 32, (∀ n, s.tracker.tags[t.val]? ≠ some (.quarantined n)) →
        exec (.quarantineExpiry t lines) s = .next (settle u)) ∧
      (s.trigger.pulse = none → exec .trigoutPulseExpiry s = .next (settle s)) ∧
      ((∀ f, s.intake.lane ≠ some (.convert f)) → exec .convertSent s = .next (settle s)) ∧
      ((∀ r, s.intake.lane ≠ some (.forward r)) → exec (.frameTransmissionEnd .intake) s = .next (settle s)) ∧
      (s.frameUnderWay = none → exec .recordFrameEnd s = .next (settle s)) ∧
      (s.deliveryPort.lane = none ∨ s.frameUnderWay ≠ none →
        exec (.frameTransmissionEnd .delivery) s = .next (settle s)) ∧
      ((∀ r, s.manager.deferred ≠ .resetEngine r) ∨ s.intake.lane ≠ none ∨ s.deliveryPort.lane ≠ none →
        exec .resetEffects s = .next (settle s)))

/-- A timing request whose time runs out completes as MISSING(TIMEOUT), its tag QUARANTINED, and is counted (R34).
That the command makes a request that still has time left time out (log entry 10), and that the levels come with it (log
entry 5), is the model's choice. -/
def Obligations.TimeoutQuarantinesTheTag : Prop :=
  ∀ (s : State) (t : Fin 32) (lines : Lines) (e : InFlight),
    s.tracker.inFlight.find? (fun x => x.tag == t.val) = some e → e.remaining ≠ none →
    exec (.requestTimeout t lines) s = .next (settle (completeRequest e (.missing .timeout)
      (.quarantined s.params.replyTimeout)
      { s with lines, counters.replyTimeouts := satAdd s.counters.replyTimeouts 1 }))

/-- The end of a record frame: the window fills, the cells are freed, the position moves on or the record leaves, and a
window that is full, ended by LAST, or pending completes, early only when it was pending (R118, R120, R121, R125).
The turn count back at 0 is the model's reading (log entry 11); that an end taken while bytes are left ends the frame then,
and that the lane's count of cycles stands as it was, is its choice (log entries 10 and 14). -/
def Obligations.RecordFrameEndFollowsItsSteps : Prop :=
  ∀ (s : State) (f : RecordFrame), s.deliveryPort.lane = some (.record f) →
    let x := s.delivery.window f.window
    let n := f.payload.length
    let x' : Window := { x with filled := x.filled + n }
    let b : State := { s with deliveryPort.lane := none }
    let filled : State :=
      { b with memory.free := s.memory.free + n, delivery := s.delivery.setWindow f.window x' }
    let tests (y : Window) (last : Bool) (u : State) : State :=
      if y.filled = y.size ∨ (last = true ∧ y.endAtRecord = true) ∨ y.closePending = true then
        { postNotice (.windowDone f.window y.tag y.filled y.closePending)
            { u with delivery := u.delivery.setWindow f.window { y with opened := false, closePending := false } } with
          delivery.current := f.window.other
          deliveryPort.turn := 0 }
      else u
    (f.abandoned = true → exec .recordFrameEnd s = .next (settle (tests x true { b with delivery.note := none }))) ∧
    (f.abandoned = false → ∀ q rest, s.delivery.queue = q :: rest →
      (f.last = true → exec .recordFrameEnd s = .next (settle (tests x' true
        { filled with delivery.queue := rest, delivery.position := 0 }))) ∧
      (f.last = false → q.discarded = false → exec .recordFrameEnd s = .next (settle (tests x' false
        { filled with
          delivery.queue := { q with cells := q.cells.drop n } :: rest
          delivery.position := s.delivery.position + n }))) ∧
      (f.last = false → q.discarded = true → exec .recordFrameEnd s = .next (settle (tests x' false
        { filled with
          delivery.queue := rest
          delivery.position := 0
          delivery.note := some { id := q.header.id, position := s.delivery.position + n } }))))

/-! ## Resets -/

/-- The deferred RESET_ENGINE completes with both lanes quiet: every block takes its reset effects, DONE is posted, and the
hold is cleared; what the rules keep is kept (R24, R46, R69, R85, R111, R128, R137, R160, R161, R176). -/
def Obligations.ResetEffectsActInEveryBlock : Prop :=
  ∀ (s : State) (r : Request), s.manager.deferred = .resetEngine r → s.intake.lane = none → s.deliveryPort.lane = none →
    exec .resetEffects s = .next (settle
      { s with
        sweeper := { s.sweeper with run := .stopped, pacer := none, burstCount := 0, sweep := none, gapPending := false,
                                    endCause := none }
        tracker := { tags := s.tracker.tags.map (fun _ => .quarantined s.params.replyTimeout), inFlight := [],
                     lastTag := s.tracker.lastTag, cursor := none, spacing := none, converts := [] }
        trigger :=
          { conditions := s.trigger.conditions.map (fun c => { c with readiness := .unknown, runCount := 0, fired := none })
            stage := if s.trigger.conditions.any (fun c => c.role = .qualify) then .awaitQualifier else .openStage
            forced := false, trigout := false, pulse := none }
        memory := { free := 8192, history := [], current := none, reservation := 0 }
        capture := { state := .idle, haltCause := .none, quota := 0, nextId := s.capture.nextId, openRecord := none }
        delivery :=
          { queue := [], windowA := { s.delivery.windowA with opened := false, closePending := false },
            windowB := { s.delivery.windowB with opened := false, closePending := false }, current := .a, position := 0,
            note := none }
        notices := { queue := [], droppedBefore := 0 }
        manager.deferred := .empty
        manager.resetHold := false
        manager.responses := s.manager.responses ++
          [{ destination := r.source, tag := r.tag, kind := r.kind, status := .done, payload := [] }] })

/-- Hard reset leaves every block at its hard-reset values, the node number from the straps with 15 taken as 0, and the
level of SWEEP_START at the release; nothing waits and no link is up (R25, R47, R70, R86, R112, R129, R137, R138, R141,
R162, R176). That the sampled lines' levels stay is the model's choice (log entry 5), as
are the phase and the count of choices (log entries 2 and 3). -/
def Obligations.HardResetGivesTheResetValues : Prop :=
  ∀ (s : State) (straps : BitVec 4) (level : Bool), exec (.hardReset straps level) s = .next
    { sweeper :=
        { program := List.replicate 128 ⟨0, 0, 0, false⟩, fixedS := 0, run := .stopped, pacer := none, burstCount := 0,
          endCause := none, sweepNumber := 0, sweep := none, gapPending := false, startLevel := level }
      tracker :=
        { tags := List.replicate 32 .free, inFlight := [], lastTag := 31, cursor := none, spacing := none, converts := [] }
      trigger :=
        { conditions := List.replicate 8
            { role := .off, source := .entry 0, test := .above, threshold := 0, low := 0, high := 0, hysteresis := 0,
              qualifyCount := 1, readiness := .unknown, runCount := 0, fired := none }
          stage := .openStage, forced := false, trigout := false, pulse := none }
      memory := { free := 8192, history := [], current := none, reservation := 0 }
      capture := { state := .idle, haltCause := .none, quota := 0, nextId := 0, openRecord := none }
      delivery :=
        { queue := [], windowA := ⟨false, 0, 0, 0, false, false⟩, windowB := ⟨false, 0, 0, 0, false, false⟩, current := .a,
          position := 0, note := none }
      notices := { queue := [], droppedBefore := 0 }
      counters := ⟨0, 0, 0, 0, 0, 0, 0, 0, 0, 0, 0, 0, 0, 0⟩
      params :=
        { sweepPeriod := 1000, startMode := .freeRun, startEdge := .rising, burstSweeps := 1, sweepLimit := 0,
          programLength := 1, entrySpacing := 0, inflightLimit := 4, replyTimeout := 40, pretriggerSweeps := 16,
          posttriggerSweeps := 64, earlyAccept := false, captureQuota := 1, quotaRepeat := false, qualifyWindow := 8,
          trigoutMode := .off }
      manager :=
        { node := if straps = 15 then 0 else straps, requests := [], deferred := .empty, responses := [],
          resetHold := false }
      intake := { link := ⟨.down, 0, 0⟩, lane := none, cycles := 0, turn := 0, forward := [] }
      deliveryPort := { link := ⟨.down, 0, 0⟩, lane := none, cycles := 0, turn := 0, passback := [] }
      clock := { tick := 0, phase := 0 }
      lines := s.lines
      choices := s.choices
      pending := s.pending }

/-! ## Sweeps -/

/-- A sweep start takes its steps in order: number, start time and AFTER_GAP; in progress; the block; the fire record
emptied and the lines sampled; the limit; issuing from entry 0 (R10, R19, R28, R43, R55). -/
def Obligations.SweepStartTakesItsSteps : Prop :=
  ∀ s : State,
    let rec_ : SweepRecord := ⟨s.sweeper.sweepNumber + 1, s.clock.tick, s.sweeper.gapPending⟩
    let a := blockRequest rec_ { s with
      sweeper.sweepNumber := s.sweeper.sweepNumber + 1
      sweeper.gapPending := false
      sweeper.sweep := some rec_ }
    let b : State := { a with
      trigger.conditions := a.trigger.conditions.map (fun c => ({ c with fired := none } : Condition).onLines s.lines) }
    let d : State :=
      if s.params.sweepLimit ≠ 0 ∧ (s.sweeper.sweepNumber + 1).toNat = s.params.sweepLimit then
        (if b.sweeper.run = .running ∨ b.sweeper.run = .burst then
          { b with sweeper.run := .stopping, sweeper.pacer := none, sweeper.endCause := some .limit }
        else { b with sweeper.pacer := none })
      else b
    let i : State := { d with tracker.cursor := some 0, tracker.spacing := none }
    sweepStart s = if s.intake.link.state = .up then issueTest i else fillRest i

/-- A block request by the capture state: none in IDLE; while armed the oldest blocks are dropped, only as many as it
takes, before the block is allocated or the sweep goes unstored; in POST it is allocated or the record is closed with
TRUNCATED and capture halts (R75, R76, R77). -/
def Obligations.BlockRequestDropsNoMoreThanNeeded : Prop :=
  ∀ (s : State) (r : SweepRecord),
    let cost := 2 + s.sweeper.fixedS
    let block : Block := { number := r.number, startTime := r.startTime.setWidth 24, afterGap := r.afterGap,
                           triggerSweep := false, cells := List.replicate s.sweeper.fixedS none }
    let stored (u : State) : State := { u with memory.free := u.memory.free - cost, memory.current := some block }
    let unstored (u : State) : State := { u with counters.unstoredSweeps := satAdd s.counters.unstoredSweeps 1 }
    (s.capture.state = .idle → blockRequest r s = s) ∧
    (s.capture.state = .filling ∨ s.capture.state = .ready →
      ∃ (k : Nat) (u : State), k ≤ s.memory.history.length ∧
        (∀ j, j < k → s.memory.free + blocksCost (s.memory.history.take j) < cost) ∧
        (cost ≤ s.memory.free + blocksCost (s.memory.history.take k) ∨ k = s.memory.history.length) ∧
        u = { s with
            memory.history := s.memory.history.drop k
            memory.free := s.memory.free + blocksCost (s.memory.history.take k)
            counters.historySpaceDrops := satAdd s.counters.historySpaceDrops k
            capture.state := if k = 0 then s.capture.state
              else if s.memory.history.length - k = s.params.pretriggerSweeps then .ready else .filling } ∧
        blockRequest r s = if cost ≤ u.memory.free then stored u else unstored u) ∧
    (s.capture.state = .post →
      blockRequest r s =
        if cost ≤ s.memory.free then stored s else enterHalted .noSpace (closeRecord true false (unstored s)))

/-- The tag of an issue is the lowest FREE tag above the last-issued one, else the lowest FREE tag; with no FREE tag there is
none (R31). An issue takes its steps: tag, marks, entry, CONVERT frame, spacing timer, cursor (R30, R32). The entry at the
cursor is ready exactly when the link is UP, the spacing has expired, a place in the table is left and a tag is FREE; it is
then issued, and the test is made again after it, so that with spacing 0 one event issues entry after entry; with spacing in
force nothing else is issued (R29). -/
def Obligations.IssueTakesTheNextFreeTag : Prop :=
  (∀ (tags : List TagState) (last : Nat), tags.length = 32 →
      let isFree (t : Nat) := tags[t]? = some .free
      (∀ t, chooseTag tags last = some t → isFree t ∧
        (last < t → ∀ u, last < u → u < t → ¬ isFree u) ∧
        (t ≤ last → (∀ u, last < u → ¬ isFree u) ∧ ∀ u, u < t → ¬ isFree u)) ∧
      (chooseTag tags last = none → ∀ t, ¬ isFree t)) ∧
  (∀ (s : State) (i t : Nat) (e : Entry), s.sweeper.program[i]? = some e →
      issueEntry i t s =
        { s with
          tracker.tags := s.tracker.tags.set t .inFlight
          tracker.lastTag := t
          tracker.inFlight := s.tracker.inFlight ++
            [{ tag := t, index := i, unit := e.unit, channel := e.channel, setting := e.setting, markers := s.lines.marks,
               issueTime := s.clock.tick, remaining := none }]
          tracker.converts := s.tracker.converts ++
            [{ tag := t, unit := e.unit, channel := e.channel, setting := e.setting }]
          tracker.spacing := if s.params.entrySpacing = 0 then none else some s.params.entrySpacing
          tracker.cursor := if i + 1 < s.params.programLength then some (i + 1) else none }) ∧
  (∀ (s : State) (i t : Nat),
      (readyToIssue s = some (i, t) ↔
        (s.intake.link.state = .up ∧ s.tracker.spacing = none ∧ s.tracker.inFlight.length < s.params.inflightLimit) ∧
          s.tracker.cursor = some i ∧ chooseTag s.tracker.tags s.tracker.lastTag = some t) ∧
      (readyToIssue s = some (i, t) → s.params.entrySpacing ≠ 0 → issueTest s = issueEntry i t s)) ∧
  (∀ s : State, readyToIssue s = none → issueTest s = s) ∧
  (∀ (s : State) (i t : Nat), s.params.programLength ≤ 128 → (∀ j, s.tracker.cursor = some j → j < s.params.programLength) →
      readyToIssue s = some (i, t) → issueTest s = issueTest (issueEntry i t s))

/-- After an issue test nothing more can be issued, whatever the spacing (R29). With the intake link not UP the rest of the
sweep completes entry by entry from the cursor's; it takes no tag, makes no entry and sends no frame, and the cursor is at
end (R43). -/
def Obligations.NothingIsLeftToIssue : Prop :=
  (∀ s : State, s.params.programLength ≤ 128 → (∀ i, s.tracker.cursor = some i → i < s.params.programLength) →
      readyToIssue (issueTest s) = none) ∧
  (∀ s : State, s.params.programLength ≤ 128 → (∀ i, s.tracker.cursor = some i → i < s.params.programLength) →
      (fillRest s).tracker = { s.tracker with cursor := none }) ∧
  (∀ s : State, fillRest s = checkCompletion (linkFill 128 s) ∧
      ∀ n, (∀ i, s.tracker.cursor = some i → linkFill (n + 1) s = linkFill n (missingLink i s)) ∧
        (s.tracker.cursor = none → linkFill n s = s))

/-- Every completion hands its sample to its cell and to the conditions that name its entry. A request that completes leaves
the table and sets its tag, and the completion test and the issue test are made (R42, R79). The cursor's entry completes as
MISSING(LINK) with nothing but its cursor moved (R43), and those of the withdrawn CONVERT frames with their tags FREE, oldest
first (R44). -/
def Obligations.CompletedRequestHandsItsSampleOver : Prop :=
  let handed (x : Sample) (p : Entry) (s : State) : State :=
    let place := ((s.sweeper.program.take x.index).filter (·.store)).length
    let a : State := match s.memory.current with
      | some b => if p.store then { s with memory.current := some { b with cells := b.cells.set place (some x) } } else s
      | none => s
    { a with
      trigger.conditions := s.trigger.conditions.map (fun c =>
        if c.role ≠ .off ∧ c.source = .entry x.index then c.onContent x.content else c) }
  let removed (e : InFlight) (tag : TagState) (s : State) : State :=
    { s with tracker.inFlight := s.tracker.inFlight.erase e, tracker.tags := s.tracker.tags.set e.tag tag }
  (∀ (s : State) (e : InFlight) (p : Entry) (content : Content) (tag : TagState), s.sweeper.program[e.index]? = some p →
      completeRequest e content tag s = issueTest (checkCompletion (removed e tag
        (handed { content, index := e.index, markers := e.markers, setting := e.setting } p s)))) ∧
  (∀ (s : State) (i : Nat) (p : Entry), s.sweeper.program[i]? = some p →
      missingLink i s =
        { handed { content := .missing .link, index := i, markers := s.lines.marks, setting := p.setting } p s with
          tracker.cursor := if i + 1 < s.params.programLength then some (i + 1) else none }) ∧
  (∀ (s : State) (f : ConvertFrame) (e : InFlight) (p : Entry), s.tracker.inFlight.find? (fun e => e.tag == f.tag) = some e →
      s.sweeper.program[e.index]? = some p →
      withdrawEntry s f = removed e .free
        (handed { content := .missing .link, index := e.index, markers := e.markers, setting := e.setting } p s)) ∧
  (∀ s : State, withdrawConverts s = { s.tracker.converts.foldl withdrawEntry s with tracker.converts := [] })

/-- The completion test takes a sweep in progress as complete exactly when the cursor is at end and the table is empty (R28).
A sweep completes: it is no longer in progress, its verdict is formed (a forced one clears the flag) and received with
its block; then the run state changes, a deferred STOP_RUN is answered, and a run end is reported (R11, R12, R20). -/
def Obligations.SweepCompletionTakesItsSteps : Prop :=
  ∀ (s : State) (r : SweepRecord),
    let complete := s.sweeper.sweep = some r ∧ s.tracker.cursor = none ∧ s.tracker.inFlight = []
    (complete → checkCompletion s = sweepCompletion r s) ∧
    ((∀ q, s.sweeper.sweep = some q → s.tracker.cursor ≠ none ∨ s.tracker.inFlight ≠ []) → checkCompletion s = s) ∧
    let v := s.trigger.verdict
    let a := receiveCompleted v r.number
      { s with sweeper.sweep := none, trigger.forced := if v = .trigger .force then false else s.trigger.forced }
    (a.sweeper.run = .running ∨ a.sweeper.run = .stopped ∨ (a.sweeper.run = .burst ∧ 0 < a.sweeper.burstCount) →
      sweepCompletion r s = a) ∧
    (a.sweeper.run = .burst → a.sweeper.burstCount = 0 →
      sweepCompletion r s = { a with sweeper.run := .waitingLine }) ∧
    (∀ cause, a.sweeper.run = .stopping → a.sweeper.endCause = some cause →
      let ended := postNotice (.runEnded cause) { a with sweeper.run := .stopped, sweeper.pacer := none }
      (∀ q, a.manager.deferred = .stopRun q →
        sweepCompletion r s = runEndReport (respond q .done [] { ended with manager.deferred := .empty })) ∧
      ((∀ q, a.manager.deferred ≠ .stopRun q) → sweepCompletion r s = runEndReport ended))

/-! ## Conditions and verdicts -/

/-- A value satisfies a test, or is re-ready for it, by the table with its bounds held to the signed range; it is never both,
and with no hysteresis always one or the other (R51). An evaluation changes readiness and run count as the table gives, and
a fire records the condition's role (R53, R55). A value is evaluated whatever its OVER_RANGE, a MISSING sample sets the run
count to 0 and nothing else (R50, R54), and a line is evaluated by its level: HIGH on high, LOW on low, the other level
re-ready (R50, R52). -/
def Obligations.EvaluationFollowsTheReadinessTable : Prop :=
  (∀ (c : Condition) (v : Int),
      let held (x : Int) : Int := if x < -32768 then -32768 else if 32767 < x then 32767 else x
      let h : Int := c.hysteresis
      (c.test = .above → (c.satisfiedBy v = true ↔ v > c.threshold.toInt) ∧
        (c.rereadyBy v = true ↔ v ≤ held (c.threshold.toInt - h))) ∧
      (c.test = .below → (c.satisfiedBy v = true ↔ v < c.threshold.toInt) ∧
        (c.rereadyBy v = true ↔ v ≥ held (c.threshold.toInt + h))) ∧
      (c.test = .inside → (c.satisfiedBy v = true ↔ c.low.toInt ≤ v ∧ v ≤ c.high.toInt) ∧
        (c.rereadyBy v = true ↔ v < held (c.low.toInt - h) ∨ v > held (c.high.toInt + h))) ∧
      (c.test = .outside → (c.satisfiedBy v = true ↔ v < c.low.toInt ∨ v > c.high.toInt) ∧
        (c.rereadyBy v = true ↔ held (c.low.toInt + h) ≤ v ∧ v ≤ held (c.high.toInt - h)))) ∧
  (∀ (c : Condition) (v : Int), -32768 ≤ v → v ≤ 32767 →
      ¬ (c.satisfiedBy v = true ∧ c.rereadyBy v = true) ∧
      (c.test ≠ .high → c.test ≠ .low → c.hysteresis = 0 → c.low.toInt ≤ c.high.toInt →
        c.satisfiedBy v = true ∨ c.rereadyBy v = true)) ∧
  (∀ (c : Condition) (satisfied reready : Bool),
      let e := c.evaluate satisfied reready
      (c.readiness = .unknown → satisfied = true → e = { c with readiness := .spent, runCount := 0 }) ∧
      (c.readiness = .unknown → satisfied = false → e = { c with readiness := .ready, runCount := 0 }) ∧
      (c.readiness = .ready → satisfied = true → c.runCount + 1 = c.qualifyCount →
        e = { c with readiness := .spent, runCount := 0, fired := some c.role }) ∧
      (c.readiness = .ready → satisfied = true → c.runCount + 1 ≠ c.qualifyCount →
        e = { c with runCount := c.runCount + 1 }) ∧
      (c.readiness = .ready → satisfied = false → e = { c with runCount := 0 }) ∧
      (c.readiness = .spent → reready = true → e = { c with readiness := .ready, runCount := 0 }) ∧
      (c.readiness = .spent → reready = false → e = { c with runCount := 0 })) ∧
  (∀ c : Condition,
      (∀ v overRange, c.onContent (.value v overRange) = c.evaluate (c.satisfiedBy v.toInt) (c.rereadyBy v.toInt)) ∧
      (∀ reason, c.onContent (.missing reason) = { c with runCount := 0 })) ∧
  (∀ (c : Condition) (lines : Lines),
      (c.role = .off → c.onLines lines = c) ∧
      (∀ i, c.source = .entry i → c.onLines lines = c) ∧
      (∀ level, c.role ≠ .off →
        (c.source = .trig0 ∧ level = lines.trig0) ∨ (c.source = .trig1 ∧ level = lines.trig1) →
        (c.test = .high → c.onLines lines = c.evaluate level (!level)) ∧
        (c.test = .low → c.onLines lines = c.evaluate (!level) level)))

/-- The verdict is the first case that holds: forced; a FIRE condition in the fire record with the stage OPEN or QUALIFIED,
the lowest-numbered being the cause; a QUALIFY condition in it; none. A forced verdict clears the flag, and the verdict goes
to the Capture Controller (R58). -/
def Obligations.VerdictIsTheFirstCaseThatHolds : Prop :=
  (∀ (s : State) (number : Word), judgeSweep number s = receiveCompleted s.trigger.verdict number
      (if s.trigger.forced = true then { s with trigger.forced := false } else s)) ∧
  ∀ t : TriggerUnit,
    let fires (n : Nat) := ∃ c, t.conditions[n]? = some c ∧ c.fired = some .fire
    let admits := t.stage = .openStage ∨ ∃ w, t.stage = .qualified w
    let qualifies := ∃ c ∈ t.conditions, c.fired = some .qualify
    (t.forced = true → t.verdict = .trigger .force) ∧
    (t.forced = false → admits → ∀ n, fires n → (∀ m, m < n → ¬ fires m) → t.verdict = .trigger (.condition n)) ∧
    (t.forced = false → ¬ (admits ∧ ∃ n, fires n) → qualifies → t.verdict = .qualify) ∧
    (t.forced = false → ¬ (admits ∧ ∃ n, fires n) → ¬ qualifies → t.verdict = .none)

/-! ## Capture -/

/-- What a completed sweep becomes: discarded in IDLE and HALTED; the opening of a record when a TRIGGER is taken; history
otherwise while armed, trimmed to PRETRIGGER_SWEEPS, with the stage changed by the verdict; in POST a block of the record,
which closes normally when its count reaches 0 (R59, R81, R92, R93, R94, R97). -/
def Obligations.CompletedSweepsGoByCaptureState : Prop :=
  (∀ (s : State) (v : Verdict) (number : Word),
      let stage : Stage := match v with
        | .trigger _ => s.trigger.stage
        | .qualify => .qualified s.params.qualifyWindow
        | .none => match s.trigger.stage with
          | .qualified w => if 1 < w then .qualified (w - 1) else .awaitQualifier
          | .openStage => .openStage
          | .awaitQualifier => .awaitQualifier
      let armed := s.capture.state = .filling ∨ s.capture.state = .ready
      let taken := s.capture.state = .ready ∨ s.params.earlyAccept = true
      let pre := s.params.pretriggerSweeps
      (s.capture.state = .idle ∨ s.capture.state = .halted →
        receiveCompleted v number s = match s.memory.current with
          | some b => { s with memory.current := none, memory.free := s.memory.free + b.cost }
          | none => s) ∧
      (∀ cause, armed → taken → v = .trigger cause → receiveCompleted v number s = openRecord cause number s) ∧
      (armed → ((∃ cause, v = .trigger cause) → ¬ taken) →
        (∀ b, s.memory.current = some b →
          let h := s.memory.history ++ [b]
          let k := if pre < h.length then 1 else 0
          receiveCompleted v number s =
            { s with
              memory.history := h.drop k
              memory.free := s.memory.free + blocksCost (h.take k)
              memory.current := none
              trigger.stage := stage
              capture.state := if (h.drop k).length = pre then .ready else .filling }) ∧
        (s.memory.current = none →
          receiveCompleted v number s =
            { s with
              trigger.stage := stage
              capture.state := if s.memory.history.length = pre then .ready else .filling }))) ∧
  (∀ (s : State) (v : Verdict) (number : Word) (o : OpenRecord), s.capture.state = .post → s.capture.openRecord = some o →
      let a : State := { s with
        capture.openRecord := some { o with
          blocks := o.blocks ++ s.memory.current.toList
          postRemaining := o.postRemaining - 1 }
        memory.current := none }
      receiveCompleted v number s =
        if o.postRemaining ≤ 1 then quotaPath (closeRecord false false a) else a)

/-- A record opens by hand-over alone: id, reservation, history, trigger block; TRIGGERED is posted, the stage is set
afresh, TRIGOUT acts, and the free count stays (R67, R74, R83, R95, R96). -/
def Obligations.RecordOpensByHandOver : Prop :=
  ∀ (s : State) (cause : Cause) (number : Word),
    let short := decide (s.capture.state = .filling)
    let a : State := { s with
      capture.nextId := s.capture.nextId + 1
      capture.openRecord := some
        { id := s.capture.nextId, cause, shortHead := short, headLost := s.memory.current.isNone, s := s.sweeper.fixedS,
          triggerSweep := number, preBlocks := s.memory.history.length, postRemaining := s.params.posttriggerSweeps,
          blocks := s.memory.history ++ (s.memory.current.map (fun b => { b with triggerSweep := true })).toList }
      capture.state := .post
      memory.reservation := 0
      memory.history := []
      memory.current := none }
    let b : State := { postNotice (.triggered s.capture.nextId number cause short s.memory.current.isNone) a with
      trigger.stage := if s.trigger.conditions.any (fun c => c.role = .qualify) then .awaitQualifier else .openStage }
    openRecord cause number s = match s.params.trigoutMode with
      | .off => b
      | .pulse => { b with trigger.trigout := true, trigger.pulse := some 10 }
      | .level => { b with trigger.trigout := true }

/-- A record closes: its header and cells join the Delivery Queue with the total of R98, the quota falls but at a CUT,
RECORD_CLOSED carries the quota left, and TRIGOUT in LEVEL goes low (R67, R74, R98). The next state is that of the way of
closing: the quota path after a normal close and after a CUT at run end, IDLE after a CUT by DISARM, HALTED after TRUNCATED;
a run end in any other capture state does nothing (R98, R108). The forced flag cleared by DISARM in POST is the model's
reading (log entry 13). -/
def Obligations.RecordClosesIntoTheQueue : Prop :=
  (∀ s : State,
      closeNormally s = quotaPath (closeRecord false false s) ∧
      closeTruncated s = enterHalted .noSpace (closeRecord true false s) ∧
      (s.capture.state = .post → disarmEffects s =
        { closeRecord false true s with trigger.forced := false, capture.state := .idle }) ∧
      (s.capture.state = .post → runEndReport s = quotaPath (closeRecord false true s)) ∧
      (s.capture.state ≠ .post → runEndReport s = s)) ∧
  ∀ (s : State) (truncated cut : Bool) (o : OpenRecord), s.capture.openRecord = some o →
    let post := s.params.posttriggerSweeps - o.postRemaining
    let total := 4 + (o.preBlocks + (if o.headLost then 0 else 1) + post) * (2 + o.s)
    let header : RecordHeader :=
      { id := o.id, cause := o.cause, shortHead := o.shortHead, headLost := o.headLost, truncated, cut, s := o.s,
        triggerSweep := o.triggerSweep, preBlocks := o.preBlocks, postBlocks := post, total }
    let quota := if cut then s.capture.quota else s.capture.quota - 1
    let a := postNotice (.recordClosed o.id total o.shortHead o.headLost truncated cut quota)
      { s with
        delivery.queue := s.delivery.queue ++
          [{ header, cells := header.words ++ o.blocks.flatMap Block.words, discarded := false }]
        capture.openRecord := none
        capture.quota := quota }
    closeRecord truncated cut s =
      if s.params.trigoutMode = .level then { a with trigger.trigout := false } else a

/-- The quota path rearms, reloads and rearms, or goes IDLE; a rearm needs 4 free cells and then a place in the queue, and
halts capture with its cause otherwise (R100, R101, R102). Entering HALTED sets the cause, posts HALTED, and makes the halt
stop demand, which acts by the run state (R23, R104). -/
def Obligations.QuotaPathRearmsOrHalts : Prop :=
  (∀ s : State,
      let rearmed (u : State) : State :=
        if u.memory.free < 4 then enterHalted .rearmNoSpace u
        else if 16 ≤ u.delivery.queue.length then enterHalted .rearmQueueFull u
        else { u with
          memory.free := u.memory.free - 4
          memory.reservation := 4
          trigger.stage := if u.trigger.conditions.any (fun c => c.role = .qualify) then .awaitQualifier else .openStage
          capture.state := if u.memory.history.length = u.params.pretriggerSweeps then .ready else .filling }
      (0 < s.capture.quota → quotaPath s = rearmed s) ∧
      (s.capture.quota = 0 → s.params.quotaRepeat = true →
        quotaPath s = rearmed { s with capture.quota := s.params.captureQuota }) ∧
      (s.capture.quota = 0 → s.params.quotaRepeat = false → quotaPath s = { s with capture.state := .idle })) ∧
  (∀ (s : State) (cause : HaltCause),
      let h := postNotice (.halted cause) { s with capture.state := .halted, capture.haltCause := cause }
      (s.sweeper.run = .stopped ∨ s.sweeper.run = .stopping → enterHalted cause s = h) ∧
      (s.sweeper.run = .running ∨ s.sweeper.run = .burst → s.sweeper.sweep ≠ none → enterHalted cause s =
        { h with sweeper.run := .stopping, sweeper.pacer := none, sweeper.endCause := some .halt }) ∧
      (s.sweeper.run = .running ∨ s.sweeper.run = .burst → s.sweeper.sweep = none → enterHalted cause s =
        postNotice (.runEnded .halt)
          { h with sweeper.run := .stopped, sweeper.pacer := none, sweeper.endCause := some .halt }))

/-! ## Notices, lanes and frames -/

/-- A notice joins the queue while there is room for it, and is dropped and counted, each count to its own limit, when
there is none (R131, R132); an event counter that counts k events rises by k and stays at 65535 (R138). -/
def Obligations.NoticesJoinOrAreCounted : Prop :=
  ∀ (n : Notice) (s : State),
    (s.notices.queue.length < 8 → postNotice n s = { s with notices.queue := s.notices.queue ++ [n] }) ∧
    (8 ≤ s.notices.queue.length → postNotice n s =
      { s with
        notices.droppedBefore := min 255 (s.notices.droppedBefore + 1)
        counters.lostNotices := BitVec.ofNat 16 (min 65535 (s.counters.lostNotices.toNat + 1)) }) ∧
    (∀ (c : Counter) (k : Nat), (satAdd c k).toNat = min 65535 (c.toNat + k))

/-- The Delivery Unit offers a record frame exactly while the four conditions hold (R116). The frame a grant builds carries
the next n cells of the head record, n the least of 32, the record cells left (its total less the delivery position) and the
window cells left (R117); while the abandonment note is present it is the ABANDONED frame (R125). -/
def Obligations.RecordFramesAreOfferedAndBuilt : Prop :=
  ∀ s : State,
    let d := s.delivery
    let w := d.window d.current
    (s.offersRecord = true ↔ s.frameUnderWay = none ∧ s.deliveryPort.link.state = .up ∧
      (w.opened = true ∧ w.closePending = false) ∧ (d.queue ≠ [] ∨ d.note ≠ none)) ∧
    (∀ q rest, d.note = none → d.queue = q :: rest →
      let n := min 32 (min q.cells.length (w.size - w.filled))
      d.nextFrame = some
        { window := d.current, windowTag := w.tag, windowOffset := w.filled, recordId := q.header.id,
          recordOffset := d.position, first := decide (d.position = 0), last := decide (n = q.cells.length),
          abandoned := false, payload := q.cells.take n }) ∧
    (∀ q, RecordsInv s → d.queue.head? = some q → q.discarded = false →
      q.cells.length = q.header.total - d.position) ∧
    (∀ note, d.note = some note → d.nextFrame = some
      { window := d.current, windowTag := w.tag, windowOffset := w.filled, recordId := note.id,
        recordOffset := note.position, first := false, last := true, abandoned := true, payload := [] })

/-- The two arbiters grant by their tables, and their turn counts return to 0 while nothing waits for its turn
(R171, R172). -/
def Obligations.ArbitersGrantByTheirTables : Prop :=
  ∀ s : State,
    let turn := if s.offersRecord then s.deliveryPort.turn + 1 else s.deliveryPort.turn
    let due := s.offersRecord = true ∧ s.deliveryPort.turn = 3
    (∀ r forward, s.intake.forward = r :: forward → s.tracker.converts = [] ∨ s.intake.turn = 4 →
      chooseUp s = startUp (.forward r) 0 { s with intake.forward := forward }) ∧
    (∀ c converts, s.tracker.converts = c :: converts → s.intake.forward ≠ [] → s.intake.turn ≠ 4 →
      chooseUp s = startUp (.convert c) (s.intake.turn + 1) { s with tracker.converts := converts }) ∧
    (∀ c converts, s.tracker.converts = c :: converts → s.intake.forward = [] →
      chooseUp s = startUp (.convert c) 0 { s with tracker.converts := converts }) ∧
    ((∀ f, s.delivery.nextFrame = some f → due ∨ s.offersRecord = true ∧ s.manager.responses = [] ∧
          s.deliveryPort.passback = [] ∧ s.notices.queue = [] → chooseDown s = startDown (.record f) 0 s) ∧
     (∀ r responses, ¬ due → s.manager.responses = r :: responses →
        chooseDown s = startDown (.response r) turn { s with manager.responses := responses }) ∧
     (∀ f passback, ¬ due → s.manager.responses = [] → s.deliveryPort.passback = f :: passback →
        chooseDown s = startDown (.passback f) turn { s with deliveryPort.passback := passback }) ∧
     (∀ n notices, ¬ due → s.manager.responses = [] → s.deliveryPort.passback = [] → s.notices.queue = n :: notices →
        chooseDown s = startDown (.notice n s.notices.droppedBefore) turn
          { s with notices := { queue := notices, droppedBefore := 0 } })) ∧
    (s.intake.forward = [] → (arbitrateUp s).intake.turn = 0) ∧
    (s.offersRecord = false → (arbitrateDown s).deliveryPort.turn = 0)

/-- The frame of a request reads back as that request, with every operand at every value, and is received as its arrival
(R142, R164, R165, R177). A SAMPLE frame's fields are read from its five bytes, the value most significant byte first,
OVER_RANGE from bit 0 and UNIT_FAULT from bit 1 of the flags, the other bits ignored; a payload of any other length gives
none, and a good SAMPLE frame is received as that sample (R165, R166, R177). -/
def Obligations.RequestFramesReadBack : Prop :=
  (∀ (r : Request) (lines : Lines), r.wf = true →
      requestOf (requestFrame r) = some r ∧ deliveryReception (requestFrame r) lines = .requestArrival r) ∧
  (∀ (r : Request), requestFrame r =
      buildFrame 3 (r.destination ++ r.source) (r.tag :: r.kind :: BitVec.ofNat 8 r.args.length ::
        r.args.flatMap (fun w =>
          [w.extractLsb' 24 8, w.extractLsb' 16 8, w.extractLsb' 8 8, w.extractLsb' 0 8]))) ∧
  (∀ payload : List Byte, payload.length ≠ 5 → sampleOf payload = none) ∧
  (∀ (f : SampleFrame) (flags node : Byte) (lines : Lines),
      flags.getLsbD 0 = f.overRange → flags.getLsbD 1 = f.unitFault →
      let payload := [f.tag, f.unit ++ f.channel, f.value.extractLsb' 8 8, f.value.extractLsb' 0 8, flags]
      sampleOf payload = some f ∧ intakeReception (buildFrame 2 node payload) lines = .sampleReceived f lines)

/-- Every field of a sample, of a block header and of a record header stands at its bits in its cell (R178). Every frame
the engine builds has the bytes of its layout, kind, node byte, length and check among them, with the check a cyclic code
over the bytes it covers (R164, R177). The named values that frames and cells carry have the codes of their table
(R179). -/
def Obligations.CellsHoldTheirFields : Prop :=
  (∀ x : Sample, x.index ≤ 127 →
    x.cell.extractLsb' 0 16 = (match x.content with
      | .value v _ => v
      | .missing reason => BitVec.ofNat 16 reason.code) ∧
    (x.cell.extractLsb' 16 7).toNat = x.index ∧ x.cell.extractLsb' 23 3 = x.markers ∧ x.cell.extractLsb' 26 4 = x.setting ∧
    (x.cell.getLsbD 30 = true ↔ ∃ reason, x.content = .missing reason) ∧
    (x.cell.getLsbD 31 = true ↔ ∃ v, x.content = .value v true)) ∧
  (∀ b : Block, ∃ second cells, b.words = b.number :: second :: cells ∧ second.extractLsb' 0 24 = b.startTime ∧
    second.getLsbD 24 = b.afterGap ∧ second.getLsbD 25 = b.triggerSweep ∧ cells.length = b.cells.length ∧
    ∀ (i : Nat) (x : Sample), b.cells[i]? = some (some x) → cells[i]? = some x.cell) ∧
  (∀ h : RecordHeader, h.cause.code ≤ 8 → h.s ≤ 128 → h.preBlocks ≤ 255 → h.postBlocks ≤ 65535 → h.total ≤ 8192 →
    ∃ first third fourth, h.words = [first, h.triggerSweep, third, fourth] ∧
    first.extractLsb' 0 16 = h.id ∧ (first.extractLsb' 16 4).toNat = h.cause.code ∧ first.getLsbD 20 = h.shortHead ∧
    first.getLsbD 21 = h.headLost ∧ first.getLsbD 22 = h.truncated ∧ first.getLsbD 23 = h.cut ∧
    (first.extractLsb' 24 8).toNat = h.s ∧ (third.extractLsb' 0 8).toNat = h.preBlocks ∧
    (third.extractLsb' 8 16).toNat = h.postBlocks ∧ (fourth.extractLsb' 0 14).toNat = h.total) ∧
  (∀ (kind node : Byte) (payload : List Byte),
      let check := checkOf (kind :: node :: BitVec.ofNat 8 payload.length :: payload)
      buildFrame kind node payload = ⟨kind, node, payload, check⟩ ∧
      (buildFrame kind node payload).wire =
        [0x7E, kind, node, BitVec.ofNat 8 payload.length] ++ payload ++ [check.extractLsb' 8 8, check.extractLsb' 0 8]) ∧
  (checkOf [] = 0xFFFF ∧ ∀ (bytes : List Byte) (b : Byte),
      let bit (r : BitVec 16) : BitVec 16 := if r.getLsbD 15 = true then (r <<< 1) ^^^ 0x1021 else r <<< 1
      checkOf (bytes ++ [b]) =
        bit (bit (bit (bit (bit (bit (bit (bit (checkOf bytes ^^^ (b.setWidth 16 <<< 8)))))))))) ∧
  (∀ node : BitVec 4,
      let bytes (w : Word) : List Byte := [w.extractLsb' 24 8, w.extractLsb' 16 8, w.extractLsb' 8 8, w.extractLsb' 0 8]
      (∀ f : ConvertFrame, f.raw node =
        buildFrame 1 (15#4 ++ node) [BitVec.ofNat 8 f.tag, f.unit ++ f.channel, f.setting.setWidth 8]) ∧
      (∀ r : Response, r.raw node = buildFrame 4 (r.destination ++ node)
        (r.tag :: r.kind :: BitVec.ofNat 8 r.status.code :: BitVec.ofNat 8 r.payload.length :: r.payload.flatMap bytes)) ∧
      (∀ (n : Notice) (dropped : Nat), n.raw node dropped = buildFrame 5 (15#4 ++ node)
        (BitVec.ofNat 8 n.code :: BitVec.ofNat 8 dropped :: n.words.flatMap bytes)) ∧
      (∀ f : RecordFrame, ∃ flags : Byte, flags.getLsbD 0 = f.first ∧ flags.getLsbD 1 = f.last ∧
        flags.getLsbD 2 = f.abandoned ∧ flags.extractLsb' 3 5 = 0 ∧
        f.raw node = buildFrame 6 (15#4 ++ node)
          ([if f.window = .a then 0 else 1, f.windowTag, flags, BitVec.ofNat 8 f.payload.length,
            (BitVec.ofNat 16 f.windowOffset).extractLsb' 8 8, (BitVec.ofNat 16 f.windowOffset).extractLsb' 0 8,
            f.recordId.extractLsb' 8 8, f.recordId.extractLsb' 0 8,
            (BitVec.ofNat 16 f.recordOffset).extractLsb' 8 8, (BitVec.ofNat 16 f.recordOffset).extractLsb' 0 8] ++
            f.payload.flatMap bytes))) ∧
  ([Status.done, .busy, .badState, .badValue, .notFound, .noSpace, .queueFull, .unknownRequest, .forwardFull, .linkDown,
      .superseded].map Status.code = List.range 11) ∧
  (∀ (n : Nat) (q r : Request),
      [Reason.timeout, .unitFault, .link, .mismatch].map Reason.code = [1, 2, 3, 4] ∧
      [Source.entry n, .trig0, .trig1].map Source.code = [n, 256, 257] ∧
      [Role.off, .qualify, .fire].map Role.code = [0, 1, 2] ∧
      [Test.above, .below, .inside, .outside, .high, .low].map Test.code = [0, 1, 2, 3, 4, 5] ∧
      [Readiness.unknown, .ready, .spent].map Readiness.code = [0, 1, 2] ∧
      [Cause.condition n, .force].map Cause.code = [n, 8] ∧
      [WindowId.a, .b].map WindowId.code = [0, 1] ∧
      [RunState.stopped, .running, .waitingLine, .burst, .stopping].map RunState.code = [0, 1, 2, 3, 4] ∧
      [CaptureState.idle, .filling, .ready, .post, .halted].map CaptureState.code = [0, 1, 2, 3, 4] ∧
      [HaltCause.none, .noSpace, .rearmNoSpace, .rearmQueueFull].map HaltCause.code = [0, 1, 2, 3] ∧
      [Stage.openStage, .awaitQualifier, .qualified n].map Stage.code = [0, 1, 2] ∧
      [Deferred.empty, .stopRun q, .resetEngine r].map Deferred.code = [0, 1, 2] ∧
      [LinkState.down, .aligning, .up].map LinkState.code = [0, 1, 2]) ∧
  (∀ (cause : EndCause) (halt : HaltCause) (trigger : Cause) (id : BitVec 16) (number : Word) (total quota filled : Nat)
      (window : WindowId) (tag : Byte) (a b c d : Bool),
      let flag (x : Bool) (v : Word) : Word := if x then v else 0
      let n1 : Notice := .runEnded cause
      let n2 : Notice := .triggered id number trigger a b
      let n3 : Notice := .recordClosed id total a b c d quota
      let n4 : Notice := .windowDone window tag filled a
      let n5 : Notice := .halted halt
      let n6 : Notice := .intakeLinkChanged a
      [n1.code, n2.code, n3.code, n4.code, n5.code, n6.code] = [1, 2, 3, 4, 5, 6] ∧
      n1.words = [match cause with
        | .stopRequest => 1
        | .limit => 2
        | .halt => 3] ∧
      n2.words = [id.setWidth 32, number, match trigger with
        | .condition m => word m
        | .force => 8, flag a 1 + flag b 2] ∧
      n3.words = [id.setWidth 32, word total, flag a 1 + flag b 2 + flag c 4 + flag d 8, word quota] ∧
      n4.words = [if window = .a then 0 else 1, tag.setWidth 32, word filled, flag a 1] ∧
      n5.words = [match halt with
        | .none => 0
        | .noSpace => 1
        | .rearmNoSpace => 2
        | .rearmQueueFull => 3] ∧
      n6.words = [if a then 2 else 0])
end

