-- ==== Sys2Proof/Laws/State.lean ====
section
/-! SUPPORT. Frames: what the operations of Ops, Trigger, Memory and Capture leave as it was; each lemma is one conjunction of projections, for simp. -/

namespace Sys2Proof.Machine

@[simp] theorem postNotice_keeps (n : Notice) (s : State) :
    (postNotice n s).sweeper = s.sweeper ∧ (postNotice n s).tracker = s.tracker ∧
    (postNotice n s).trigger = s.trigger ∧ (postNotice n s).memory = s.memory ∧ (postNotice n s).capture = s.capture ∧
    (postNotice n s).delivery = s.delivery ∧ (postNotice n s).counters.intakeBadFrames = s.counters.intakeBadFrames ∧
    (postNotice n s).counters.deliveryBadFrames = s.counters.deliveryBadFrames ∧
    (postNotice n s).counters.strayReplies = s.counters.strayReplies ∧
    (postNotice n s).counters.lateReplies = s.counters.lateReplies ∧
    (postNotice n s).counters.mismatchedReplies = s.counters.mismatchedReplies ∧
    (postNotice n s).counters.replyTimeouts = s.counters.replyTimeouts ∧
    (postNotice n s).counters.missedSweeps = s.counters.missedSweeps ∧
    (postNotice n s).counters.ignoredStartEdges = s.counters.ignoredStartEdges ∧
    (postNotice n s).counters.unstoredSweeps = s.counters.unstoredSweeps ∧
    (postNotice n s).counters.historySpaceDrops = s.counters.historySpaceDrops ∧
    (postNotice n s).counters.passbackDrops = s.counters.passbackDrops ∧
    (postNotice n s).counters.forwardDrops = s.counters.forwardDrops ∧
    (postNotice n s).counters.droppedRequests = s.counters.droppedRequests ∧ (postNotice n s).params = s.params ∧
    (postNotice n s).manager = s.manager ∧ (postNotice n s).intake = s.intake ∧
    (postNotice n s).deliveryPort = s.deliveryPort ∧ (postNotice n s).clock = s.clock ∧
    (postNotice n s).lines = s.lines ∧ (postNotice n s).choices = s.choices ∧
    (postNotice n s).pending = s.pending := by
  and_intros <;> simp only [postNotice] <;> (repeat' split) <;> simp

@[simp] theorem respond_keeps (r : Request) (status : Status) (payload : List Word) (s : State) :
    (respond r status payload s).sweeper = s.sweeper ∧ (respond r status payload s).tracker = s.tracker ∧
    (respond r status payload s).trigger = s.trigger ∧ (respond r status payload s).memory = s.memory ∧
    (respond r status payload s).capture = s.capture ∧ (respond r status payload s).delivery = s.delivery ∧
    (respond r status payload s).notices = s.notices ∧ (respond r status payload s).counters = s.counters ∧
    (respond r status payload s).params = s.params ∧ (respond r status payload s).manager.node = s.manager.node ∧
    (respond r status payload s).manager.requests = s.manager.requests ∧
    (respond r status payload s).manager.deferred = s.manager.deferred ∧
    (respond r status payload s).manager.resetHold = s.manager.resetHold ∧
    (respond r status payload s).intake = s.intake ∧ (respond r status payload s).deliveryPort = s.deliveryPort ∧
    (respond r status payload s).clock = s.clock ∧ (respond r status payload s).lines = s.lines ∧
    (respond r status payload s).choices = s.choices ∧ (respond r status payload s).pending = s.pending := by
  and_intros <;> rfl

@[simp] theorem popRequest_keeps (s : State) :
    (popRequest s).sweeper = s.sweeper ∧ (popRequest s).tracker = s.tracker ∧ (popRequest s).trigger = s.trigger ∧
    (popRequest s).memory = s.memory ∧ (popRequest s).capture = s.capture ∧ (popRequest s).delivery = s.delivery ∧
    (popRequest s).notices = s.notices ∧ (popRequest s).counters = s.counters ∧ (popRequest s).params = s.params ∧
    (popRequest s).manager.node = s.manager.node ∧ (popRequest s).manager.deferred = s.manager.deferred ∧
    (popRequest s).manager.responses = s.manager.responses ∧ (popRequest s).manager.resetHold = s.manager.resetHold ∧
    (popRequest s).intake = s.intake ∧ (popRequest s).deliveryPort = s.deliveryPort ∧ (popRequest s).clock = s.clock ∧
    (popRequest s).lines = s.lines ∧ (popRequest s).choices = s.choices ∧ (popRequest s).pending = s.pending := by
  and_intros <;> rfl

@[simp] theorem seeLines_keeps (lines : Lines) (s : State) :
    (seeLines lines s).sweeper = s.sweeper ∧ (seeLines lines s).tracker = s.tracker ∧
    (seeLines lines s).trigger = s.trigger ∧ (seeLines lines s).memory = s.memory ∧
    (seeLines lines s).capture = s.capture ∧ (seeLines lines s).delivery = s.delivery ∧
    (seeLines lines s).notices = s.notices ∧ (seeLines lines s).counters = s.counters ∧
    (seeLines lines s).params = s.params ∧ (seeLines lines s).manager = s.manager ∧
    (seeLines lines s).intake = s.intake ∧ (seeLines lines s).deliveryPort = s.deliveryPort ∧
    (seeLines lines s).clock = s.clock ∧ (seeLines lines s).choices = s.choices ∧
    (seeLines lines s).pending = s.pending := by
  and_intros <;> rfl

@[simp] theorem setTag_keeps (t : Nat) (x : TagState) (s : State) :
    (setTag t x s).sweeper = s.sweeper ∧ (setTag t x s).tracker.inFlight = s.tracker.inFlight ∧
    (setTag t x s).tracker.lastTag = s.tracker.lastTag ∧ (setTag t x s).tracker.cursor = s.tracker.cursor ∧
    (setTag t x s).tracker.spacing = s.tracker.spacing ∧ (setTag t x s).tracker.converts = s.tracker.converts ∧
    (setTag t x s).trigger = s.trigger ∧ (setTag t x s).memory = s.memory ∧ (setTag t x s).capture = s.capture ∧
    (setTag t x s).delivery = s.delivery ∧ (setTag t x s).notices = s.notices ∧ (setTag t x s).counters = s.counters ∧
    (setTag t x s).params = s.params ∧ (setTag t x s).manager = s.manager ∧ (setTag t x s).intake = s.intake ∧
    (setTag t x s).deliveryPort = s.deliveryPort ∧ (setTag t x s).clock = s.clock ∧ (setTag t x s).lines = s.lines ∧
    (setTag t x s).choices = s.choices ∧ (setTag t x s).pending = s.pending := by
  and_intros <;> rfl

@[simp] theorem mapConditions_keeps (f : Condition → Condition) (s : State) :
    (mapConditions f s).sweeper = s.sweeper ∧ (mapConditions f s).tracker = s.tracker ∧
    (mapConditions f s).trigger.stage = s.trigger.stage ∧ (mapConditions f s).trigger.forced = s.trigger.forced ∧
    (mapConditions f s).trigger.trigout = s.trigger.trigout ∧ (mapConditions f s).trigger.pulse = s.trigger.pulse ∧
    (mapConditions f s).memory = s.memory ∧ (mapConditions f s).capture = s.capture ∧
    (mapConditions f s).delivery = s.delivery ∧ (mapConditions f s).notices = s.notices ∧
    (mapConditions f s).counters = s.counters ∧ (mapConditions f s).params = s.params ∧
    (mapConditions f s).manager = s.manager ∧ (mapConditions f s).intake = s.intake ∧
    (mapConditions f s).deliveryPort = s.deliveryPort ∧ (mapConditions f s).clock = s.clock ∧
    (mapConditions f s).lines = s.lines ∧ (mapConditions f s).choices = s.choices ∧
    (mapConditions f s).pending = s.pending := by
  and_intros <;> rfl

@[simp] theorem triggerSample_keeps (i : Nat) (content : Content) (s : State) :
    (triggerSample i content s).sweeper = s.sweeper ∧ (triggerSample i content s).tracker = s.tracker ∧
    (triggerSample i content s).trigger.stage = s.trigger.stage ∧
    (triggerSample i content s).trigger.forced = s.trigger.forced ∧
    (triggerSample i content s).trigger.trigout = s.trigger.trigout ∧
    (triggerSample i content s).trigger.pulse = s.trigger.pulse ∧ (triggerSample i content s).memory = s.memory ∧
    (triggerSample i content s).capture = s.capture ∧ (triggerSample i content s).delivery = s.delivery ∧
    (triggerSample i content s).notices = s.notices ∧ (triggerSample i content s).counters = s.counters ∧
    (triggerSample i content s).params = s.params ∧ (triggerSample i content s).manager = s.manager ∧
    (triggerSample i content s).intake = s.intake ∧ (triggerSample i content s).deliveryPort = s.deliveryPort ∧
    (triggerSample i content s).clock = s.clock ∧ (triggerSample i content s).lines = s.lines ∧
    (triggerSample i content s).choices = s.choices ∧ (triggerSample i content s).pending = s.pending := by
  and_intros <;> rfl

@[simp] theorem triggerSweepStart_keeps (s : State) :
    (triggerSweepStart s).sweeper = s.sweeper ∧ (triggerSweepStart s).tracker = s.tracker ∧
    (triggerSweepStart s).trigger.stage = s.trigger.stage ∧ (triggerSweepStart s).trigger.forced = s.trigger.forced ∧
    (triggerSweepStart s).trigger.trigout = s.trigger.trigout ∧
    (triggerSweepStart s).trigger.pulse = s.trigger.pulse ∧ (triggerSweepStart s).memory = s.memory ∧
    (triggerSweepStart s).capture = s.capture ∧ (triggerSweepStart s).delivery = s.delivery ∧
    (triggerSweepStart s).notices = s.notices ∧ (triggerSweepStart s).counters = s.counters ∧
    (triggerSweepStart s).params = s.params ∧ (triggerSweepStart s).manager = s.manager ∧
    (triggerSweepStart s).intake = s.intake ∧ (triggerSweepStart s).deliveryPort = s.deliveryPort ∧
    (triggerSweepStart s).clock = s.clock ∧ (triggerSweepStart s).lines = s.lines ∧
    (triggerSweepStart s).choices = s.choices ∧ (triggerSweepStart s).pending = s.pending := by
  and_intros <;> rfl

@[simp] theorem setStageAfresh_keeps (s : State) :
    (setStageAfresh s).sweeper = s.sweeper ∧ (setStageAfresh s).tracker = s.tracker ∧
    (setStageAfresh s).trigger.conditions = s.trigger.conditions ∧
    (setStageAfresh s).trigger.forced = s.trigger.forced ∧ (setStageAfresh s).trigger.trigout = s.trigger.trigout ∧
    (setStageAfresh s).trigger.pulse = s.trigger.pulse ∧ (setStageAfresh s).memory = s.memory ∧
    (setStageAfresh s).capture = s.capture ∧ (setStageAfresh s).delivery = s.delivery ∧
    (setStageAfresh s).notices = s.notices ∧ (setStageAfresh s).counters = s.counters ∧
    (setStageAfresh s).params = s.params ∧ (setStageAfresh s).manager = s.manager ∧
    (setStageAfresh s).intake = s.intake ∧ (setStageAfresh s).deliveryPort = s.deliveryPort ∧
    (setStageAfresh s).clock = s.clock ∧ (setStageAfresh s).lines = s.lines ∧ (setStageAfresh s).choices = s.choices ∧
    (setStageAfresh s).pending = s.pending := by
  and_intros <;> rfl

@[simp] theorem clearForced_keeps (s : State) :
    (clearForced s).sweeper = s.sweeper ∧ (clearForced s).tracker = s.tracker ∧
    (clearForced s).trigger.conditions = s.trigger.conditions ∧ (clearForced s).trigger.stage = s.trigger.stage ∧
    (clearForced s).trigger.trigout = s.trigger.trigout ∧ (clearForced s).trigger.pulse = s.trigger.pulse ∧
    (clearForced s).memory = s.memory ∧ (clearForced s).capture = s.capture ∧ (clearForced s).delivery = s.delivery ∧
    (clearForced s).notices = s.notices ∧ (clearForced s).counters = s.counters ∧ (clearForced s).params = s.params ∧
    (clearForced s).manager = s.manager ∧ (clearForced s).intake = s.intake ∧
    (clearForced s).deliveryPort = s.deliveryPort ∧ (clearForced s).clock = s.clock ∧
    (clearForced s).lines = s.lines ∧ (clearForced s).choices = s.choices ∧ (clearForced s).pending = s.pending := by
  and_intros <;> rfl

@[simp] theorem stageByVerdict_keeps (v : Verdict) (s : State) :
    (stageByVerdict v s).sweeper = s.sweeper ∧ (stageByVerdict v s).tracker = s.tracker ∧
    (stageByVerdict v s).trigger.conditions = s.trigger.conditions ∧
    (stageByVerdict v s).trigger.forced = s.trigger.forced ∧
    (stageByVerdict v s).trigger.trigout = s.trigger.trigout ∧ (stageByVerdict v s).trigger.pulse = s.trigger.pulse ∧
    (stageByVerdict v s).memory = s.memory ∧ (stageByVerdict v s).capture = s.capture ∧
    (stageByVerdict v s).delivery = s.delivery ∧ (stageByVerdict v s).notices = s.notices ∧
    (stageByVerdict v s).counters = s.counters ∧ (stageByVerdict v s).params = s.params ∧
    (stageByVerdict v s).manager = s.manager ∧ (stageByVerdict v s).intake = s.intake ∧
    (stageByVerdict v s).deliveryPort = s.deliveryPort ∧ (stageByVerdict v s).clock = s.clock ∧
    (stageByVerdict v s).lines = s.lines ∧ (stageByVerdict v s).choices = s.choices ∧
    (stageByVerdict v s).pending = s.pending := by
  and_intros <;> rfl

@[simp] theorem trigoutTaken_keeps (s : State) :
    (trigoutTaken s).sweeper = s.sweeper ∧ (trigoutTaken s).tracker = s.tracker ∧
    (trigoutTaken s).trigger.conditions = s.trigger.conditions ∧ (trigoutTaken s).trigger.stage = s.trigger.stage ∧
    (trigoutTaken s).trigger.forced = s.trigger.forced ∧ (trigoutTaken s).memory = s.memory ∧
    (trigoutTaken s).capture = s.capture ∧ (trigoutTaken s).delivery = s.delivery ∧
    (trigoutTaken s).notices = s.notices ∧ (trigoutTaken s).counters = s.counters ∧
    (trigoutTaken s).params = s.params ∧ (trigoutTaken s).manager = s.manager ∧ (trigoutTaken s).intake = s.intake ∧
    (trigoutTaken s).deliveryPort = s.deliveryPort ∧ (trigoutTaken s).clock = s.clock ∧
    (trigoutTaken s).lines = s.lines ∧ (trigoutTaken s).choices = s.choices ∧
    (trigoutTaken s).pending = s.pending := by
  and_intros <;> simp only [trigoutTaken] <;> (repeat' split) <;> simp

@[simp] theorem trigoutPostLeft_keeps (s : State) :
    (trigoutPostLeft s).sweeper = s.sweeper ∧ (trigoutPostLeft s).tracker = s.tracker ∧
    (trigoutPostLeft s).trigger.conditions = s.trigger.conditions ∧
    (trigoutPostLeft s).trigger.stage = s.trigger.stage ∧ (trigoutPostLeft s).trigger.forced = s.trigger.forced ∧
    (trigoutPostLeft s).trigger.pulse = s.trigger.pulse ∧ (trigoutPostLeft s).memory = s.memory ∧
    (trigoutPostLeft s).capture = s.capture ∧ (trigoutPostLeft s).delivery = s.delivery ∧
    (trigoutPostLeft s).notices = s.notices ∧ (trigoutPostLeft s).counters = s.counters ∧
    (trigoutPostLeft s).params = s.params ∧ (trigoutPostLeft s).manager = s.manager ∧
    (trigoutPostLeft s).intake = s.intake ∧ (trigoutPostLeft s).deliveryPort = s.deliveryPort ∧
    (trigoutPostLeft s).clock = s.clock ∧ (trigoutPostLeft s).lines = s.lines ∧
    (trigoutPostLeft s).choices = s.choices ∧ (trigoutPostLeft s).pending = s.pending := by
  and_intros <;> simp only [trigoutPostLeft] <;> (repeat' split) <;> simp

@[simp] theorem driveTrigout_keeps (level : Bool) (s : State) :
    (driveTrigout level s).sweeper = s.sweeper ∧ (driveTrigout level s).tracker = s.tracker ∧
    (driveTrigout level s).trigger.conditions = s.trigger.conditions ∧
    (driveTrigout level s).trigger.stage = s.trigger.stage ∧
    (driveTrigout level s).trigger.forced = s.trigger.forced ∧ (driveTrigout level s).memory = s.memory ∧
    (driveTrigout level s).capture = s.capture ∧ (driveTrigout level s).delivery = s.delivery ∧
    (driveTrigout level s).notices = s.notices ∧ (driveTrigout level s).counters = s.counters ∧
    (driveTrigout level s).params = s.params ∧ (driveTrigout level s).manager = s.manager ∧
    (driveTrigout level s).intake = s.intake ∧ (driveTrigout level s).deliveryPort = s.deliveryPort ∧
    (driveTrigout level s).clock = s.clock ∧ (driveTrigout level s).lines = s.lines ∧
    (driveTrigout level s).choices = s.choices ∧ (driveTrigout level s).pending = s.pending := by
  and_intros <;> rfl

@[simp] theorem trigoutModeWritten_keeps (old : TrigoutMode) (s : State) :
    (trigoutModeWritten old s).sweeper = s.sweeper ∧ (trigoutModeWritten old s).tracker = s.tracker ∧
    (trigoutModeWritten old s).trigger.conditions = s.trigger.conditions ∧
    (trigoutModeWritten old s).trigger.stage = s.trigger.stage ∧
    (trigoutModeWritten old s).trigger.forced = s.trigger.forced ∧ (trigoutModeWritten old s).memory = s.memory ∧
    (trigoutModeWritten old s).capture = s.capture ∧ (trigoutModeWritten old s).delivery = s.delivery ∧
    (trigoutModeWritten old s).notices = s.notices ∧ (trigoutModeWritten old s).counters = s.counters ∧
    (trigoutModeWritten old s).params = s.params ∧ (trigoutModeWritten old s).manager = s.manager ∧
    (trigoutModeWritten old s).intake = s.intake ∧ (trigoutModeWritten old s).deliveryPort = s.deliveryPort ∧
    (trigoutModeWritten old s).clock = s.clock ∧ (trigoutModeWritten old s).lines = s.lines ∧
    (trigoutModeWritten old s).choices = s.choices ∧ (trigoutModeWritten old s).pending = s.pending := by
  and_intros <;> simp only [trigoutModeWritten] <;> (repeat' split) <;> simp

@[simp] theorem allocateBlock_keeps (r : SweepRecord) (s : State) :
    (allocateBlock r s).sweeper = s.sweeper ∧ (allocateBlock r s).tracker = s.tracker ∧
    (allocateBlock r s).trigger = s.trigger ∧ (allocateBlock r s).memory.history = s.memory.history ∧
    (allocateBlock r s).memory.reservation = s.memory.reservation ∧ (allocateBlock r s).capture = s.capture ∧
    (allocateBlock r s).delivery = s.delivery ∧ (allocateBlock r s).notices = s.notices ∧
    (allocateBlock r s).counters = s.counters ∧ (allocateBlock r s).params = s.params ∧
    (allocateBlock r s).manager = s.manager ∧ (allocateBlock r s).intake = s.intake ∧
    (allocateBlock r s).deliveryPort = s.deliveryPort ∧ (allocateBlock r s).clock = s.clock ∧
    (allocateBlock r s).lines = s.lines ∧ (allocateBlock r s).choices = s.choices ∧
    (allocateBlock r s).pending = s.pending := by
  and_intros <;> rfl

@[simp] theorem countUnstored_keeps (s : State) :
    (countUnstored s).sweeper = s.sweeper ∧ (countUnstored s).tracker = s.tracker ∧
    (countUnstored s).trigger = s.trigger ∧ (countUnstored s).memory = s.memory ∧
    (countUnstored s).capture = s.capture ∧ (countUnstored s).delivery = s.delivery ∧
    (countUnstored s).notices = s.notices ∧ (countUnstored s).counters.intakeBadFrames = s.counters.intakeBadFrames ∧
    (countUnstored s).counters.deliveryBadFrames = s.counters.deliveryBadFrames ∧
    (countUnstored s).counters.strayReplies = s.counters.strayReplies ∧
    (countUnstored s).counters.lateReplies = s.counters.lateReplies ∧
    (countUnstored s).counters.mismatchedReplies = s.counters.mismatchedReplies ∧
    (countUnstored s).counters.replyTimeouts = s.counters.replyTimeouts ∧
    (countUnstored s).counters.missedSweeps = s.counters.missedSweeps ∧
    (countUnstored s).counters.ignoredStartEdges = s.counters.ignoredStartEdges ∧
    (countUnstored s).counters.historySpaceDrops = s.counters.historySpaceDrops ∧
    (countUnstored s).counters.lostNotices = s.counters.lostNotices ∧
    (countUnstored s).counters.passbackDrops = s.counters.passbackDrops ∧
    (countUnstored s).counters.forwardDrops = s.counters.forwardDrops ∧
    (countUnstored s).counters.droppedRequests = s.counters.droppedRequests ∧ (countUnstored s).params = s.params ∧
    (countUnstored s).manager = s.manager ∧ (countUnstored s).intake = s.intake ∧
    (countUnstored s).deliveryPort = s.deliveryPort ∧ (countUnstored s).clock = s.clock ∧
    (countUnstored s).lines = s.lines ∧ (countUnstored s).choices = s.choices ∧
    (countUnstored s).pending = s.pending := by
  and_intros <;> rfl

@[simp] theorem setArmedState_keeps (s : State) :
    (setArmedState s).sweeper = s.sweeper ∧ (setArmedState s).tracker = s.tracker ∧
    (setArmedState s).trigger = s.trigger ∧ (setArmedState s).memory = s.memory ∧
    (setArmedState s).capture.haltCause = s.capture.haltCause ∧ (setArmedState s).capture.quota = s.capture.quota ∧
    (setArmedState s).capture.nextId = s.capture.nextId ∧
    (setArmedState s).capture.openRecord = s.capture.openRecord ∧ (setArmedState s).delivery = s.delivery ∧
    (setArmedState s).notices = s.notices ∧ (setArmedState s).counters = s.counters ∧
    (setArmedState s).params = s.params ∧ (setArmedState s).manager = s.manager ∧
    (setArmedState s).intake = s.intake ∧ (setArmedState s).deliveryPort = s.deliveryPort ∧
    (setArmedState s).clock = s.clock ∧ (setArmedState s).lines = s.lines ∧ (setArmedState s).choices = s.choices ∧
    (setArmedState s).pending = s.pending := by
  and_intros <;> rfl

@[simp] theorem dropForSpace_keeps (s : State) :
    (dropForSpace s).sweeper = s.sweeper ∧ (dropForSpace s).tracker = s.tracker ∧
    (dropForSpace s).trigger = s.trigger ∧ (dropForSpace s).memory.current = s.memory.current ∧
    (dropForSpace s).memory.reservation = s.memory.reservation ∧
    (dropForSpace s).capture.haltCause = s.capture.haltCause ∧ (dropForSpace s).capture.quota = s.capture.quota ∧
    (dropForSpace s).capture.nextId = s.capture.nextId ∧ (dropForSpace s).capture.openRecord = s.capture.openRecord ∧
    (dropForSpace s).delivery = s.delivery ∧ (dropForSpace s).notices = s.notices ∧
    (dropForSpace s).counters.intakeBadFrames = s.counters.intakeBadFrames ∧
    (dropForSpace s).counters.deliveryBadFrames = s.counters.deliveryBadFrames ∧
    (dropForSpace s).counters.strayReplies = s.counters.strayReplies ∧
    (dropForSpace s).counters.lateReplies = s.counters.lateReplies ∧
    (dropForSpace s).counters.mismatchedReplies = s.counters.mismatchedReplies ∧
    (dropForSpace s).counters.replyTimeouts = s.counters.replyTimeouts ∧
    (dropForSpace s).counters.missedSweeps = s.counters.missedSweeps ∧
    (dropForSpace s).counters.ignoredStartEdges = s.counters.ignoredStartEdges ∧
    (dropForSpace s).counters.unstoredSweeps = s.counters.unstoredSweeps ∧
    (dropForSpace s).counters.lostNotices = s.counters.lostNotices ∧
    (dropForSpace s).counters.passbackDrops = s.counters.passbackDrops ∧
    (dropForSpace s).counters.forwardDrops = s.counters.forwardDrops ∧
    (dropForSpace s).counters.droppedRequests = s.counters.droppedRequests ∧ (dropForSpace s).params = s.params ∧
    (dropForSpace s).manager = s.manager ∧ (dropForSpace s).intake = s.intake ∧
    (dropForSpace s).deliveryPort = s.deliveryPort ∧ (dropForSpace s).clock = s.clock ∧
    (dropForSpace s).lines = s.lines ∧ (dropForSpace s).choices = s.choices ∧
    (dropForSpace s).pending = s.pending := by
  and_intros <;> simp only [dropForSpace] <;> (repeat' split) <;> simp

@[simp] theorem storeSample_keeps (x : Sample) (s : State) :
    (storeSample x s).sweeper = s.sweeper ∧ (storeSample x s).tracker = s.tracker ∧
    (storeSample x s).trigger = s.trigger ∧ (storeSample x s).memory.free = s.memory.free ∧
    (storeSample x s).memory.history = s.memory.history ∧
    (storeSample x s).memory.reservation = s.memory.reservation ∧ (storeSample x s).capture = s.capture ∧
    (storeSample x s).delivery = s.delivery ∧ (storeSample x s).notices = s.notices ∧
    (storeSample x s).counters = s.counters ∧ (storeSample x s).params = s.params ∧
    (storeSample x s).manager = s.manager ∧ (storeSample x s).intake = s.intake ∧
    (storeSample x s).deliveryPort = s.deliveryPort ∧ (storeSample x s).clock = s.clock ∧
    (storeSample x s).lines = s.lines ∧ (storeSample x s).choices = s.choices ∧
    (storeSample x s).pending = s.pending := by
  and_intros <;> simp only [storeSample] <;> (repeat' split) <;> simp

@[simp] theorem discardBlock_keeps (s : State) :
    (discardBlock s).sweeper = s.sweeper ∧ (discardBlock s).tracker = s.tracker ∧
    (discardBlock s).trigger = s.trigger ∧ (discardBlock s).memory.history = s.memory.history ∧
    (discardBlock s).memory.reservation = s.memory.reservation ∧ (discardBlock s).capture = s.capture ∧
    (discardBlock s).delivery = s.delivery ∧ (discardBlock s).notices = s.notices ∧
    (discardBlock s).counters = s.counters ∧ (discardBlock s).params = s.params ∧
    (discardBlock s).manager = s.manager ∧ (discardBlock s).intake = s.intake ∧
    (discardBlock s).deliveryPort = s.deliveryPort ∧ (discardBlock s).clock = s.clock ∧
    (discardBlock s).lines = s.lines ∧ (discardBlock s).choices = s.choices ∧
    (discardBlock s).pending = s.pending := by
  and_intros <;> simp only [discardBlock] <;> (repeat' split) <;> simp

@[simp] theorem trimHistory_keeps (s : State) :
    (trimHistory s).sweeper = s.sweeper ∧ (trimHistory s).tracker = s.tracker ∧ (trimHistory s).trigger = s.trigger ∧
    (trimHistory s).memory.current = s.memory.current ∧ (trimHistory s).memory.reservation = s.memory.reservation ∧
    (trimHistory s).capture = s.capture ∧ (trimHistory s).delivery = s.delivery ∧
    (trimHistory s).notices = s.notices ∧ (trimHistory s).counters = s.counters ∧ (trimHistory s).params = s.params ∧
    (trimHistory s).manager = s.manager ∧ (trimHistory s).intake = s.intake ∧
    (trimHistory s).deliveryPort = s.deliveryPort ∧ (trimHistory s).clock = s.clock ∧
    (trimHistory s).lines = s.lines ∧ (trimHistory s).choices = s.choices ∧ (trimHistory s).pending = s.pending := by
  and_intros <;> simp only [trimHistory] <;> (repeat' split) <;> simp

@[simp] theorem historyAppend_keeps (s : State) :
    (historyAppend s).sweeper = s.sweeper ∧ (historyAppend s).tracker = s.tracker ∧
    (historyAppend s).trigger = s.trigger ∧ (historyAppend s).memory.reservation = s.memory.reservation ∧
    (historyAppend s).capture.haltCause = s.capture.haltCause ∧ (historyAppend s).capture.quota = s.capture.quota ∧
    (historyAppend s).capture.nextId = s.capture.nextId ∧
    (historyAppend s).capture.openRecord = s.capture.openRecord ∧ (historyAppend s).delivery = s.delivery ∧
    (historyAppend s).notices = s.notices ∧ (historyAppend s).counters = s.counters ∧
    (historyAppend s).params = s.params ∧ (historyAppend s).manager = s.manager ∧
    (historyAppend s).intake = s.intake ∧ (historyAppend s).deliveryPort = s.deliveryPort ∧
    (historyAppend s).clock = s.clock ∧ (historyAppend s).lines = s.lines ∧ (historyAppend s).choices = s.choices ∧
    (historyAppend s).pending = s.pending := by
  and_intros <;> simp only [historyAppend] <;> (repeat' split) <;> simp

@[simp] theorem dropHistory_keeps (s : State) :
    (dropHistory s).sweeper = s.sweeper ∧ (dropHistory s).tracker = s.tracker ∧ (dropHistory s).trigger = s.trigger ∧
    (dropHistory s).memory.current = s.memory.current ∧ (dropHistory s).memory.reservation = s.memory.reservation ∧
    (dropHistory s).capture = s.capture ∧ (dropHistory s).delivery = s.delivery ∧
    (dropHistory s).notices = s.notices ∧ (dropHistory s).counters = s.counters ∧ (dropHistory s).params = s.params ∧
    (dropHistory s).manager = s.manager ∧ (dropHistory s).intake = s.intake ∧
    (dropHistory s).deliveryPort = s.deliveryPort ∧ (dropHistory s).clock = s.clock ∧
    (dropHistory s).lines = s.lines ∧ (dropHistory s).choices = s.choices ∧ (dropHistory s).pending = s.pending := by
  and_intros <;> rfl

@[simp] theorem takeReservation_keeps (s : State) :
    (takeReservation s).sweeper = s.sweeper ∧ (takeReservation s).tracker = s.tracker ∧
    (takeReservation s).trigger = s.trigger ∧ (takeReservation s).memory.history = s.memory.history ∧
    (takeReservation s).memory.current = s.memory.current ∧ (takeReservation s).capture = s.capture ∧
    (takeReservation s).delivery = s.delivery ∧ (takeReservation s).notices = s.notices ∧
    (takeReservation s).counters = s.counters ∧ (takeReservation s).params = s.params ∧
    (takeReservation s).manager = s.manager ∧ (takeReservation s).intake = s.intake ∧
    (takeReservation s).deliveryPort = s.deliveryPort ∧ (takeReservation s).clock = s.clock ∧
    (takeReservation s).lines = s.lines ∧ (takeReservation s).choices = s.choices ∧
    (takeReservation s).pending = s.pending := by
  and_intros <;> rfl

@[simp] theorem freeReservation_keeps (s : State) :
    (freeReservation s).sweeper = s.sweeper ∧ (freeReservation s).tracker = s.tracker ∧
    (freeReservation s).trigger = s.trigger ∧ (freeReservation s).memory.history = s.memory.history ∧
    (freeReservation s).memory.current = s.memory.current ∧ (freeReservation s).capture = s.capture ∧
    (freeReservation s).delivery = s.delivery ∧ (freeReservation s).notices = s.notices ∧
    (freeReservation s).counters = s.counters ∧ (freeReservation s).params = s.params ∧
    (freeReservation s).manager = s.manager ∧ (freeReservation s).intake = s.intake ∧
    (freeReservation s).deliveryPort = s.deliveryPort ∧ (freeReservation s).clock = s.clock ∧
    (freeReservation s).lines = s.lines ∧ (freeReservation s).choices = s.choices ∧
    (freeReservation s).pending = s.pending := by
  and_intros <;> rfl

@[simp] theorem releaseCells_keeps (n : Nat) (s : State) :
    (releaseCells n s).sweeper = s.sweeper ∧ (releaseCells n s).tracker = s.tracker ∧
    (releaseCells n s).trigger = s.trigger ∧ (releaseCells n s).memory.history = s.memory.history ∧
    (releaseCells n s).memory.current = s.memory.current ∧
    (releaseCells n s).memory.reservation = s.memory.reservation ∧ (releaseCells n s).capture = s.capture ∧
    (releaseCells n s).delivery = s.delivery ∧ (releaseCells n s).notices = s.notices ∧
    (releaseCells n s).counters = s.counters ∧ (releaseCells n s).params = s.params ∧
    (releaseCells n s).manager = s.manager ∧ (releaseCells n s).intake = s.intake ∧
    (releaseCells n s).deliveryPort = s.deliveryPort ∧ (releaseCells n s).clock = s.clock ∧
    (releaseCells n s).lines = s.lines ∧ (releaseCells n s).choices = s.choices ∧
    (releaseCells n s).pending = s.pending := by
  and_intros <;> rfl

@[simp] theorem cancelPacer_keeps (s : State) :
    (cancelPacer s).sweeper.program = s.sweeper.program ∧ (cancelPacer s).sweeper.fixedS = s.sweeper.fixedS ∧
    (cancelPacer s).sweeper.run = s.sweeper.run ∧ (cancelPacer s).sweeper.burstCount = s.sweeper.burstCount ∧
    (cancelPacer s).sweeper.endCause = s.sweeper.endCause ∧
    (cancelPacer s).sweeper.sweepNumber = s.sweeper.sweepNumber ∧ (cancelPacer s).sweeper.sweep = s.sweeper.sweep ∧
    (cancelPacer s).sweeper.gapPending = s.sweeper.gapPending ∧
    (cancelPacer s).sweeper.startLevel = s.sweeper.startLevel ∧ (cancelPacer s).tracker = s.tracker ∧
    (cancelPacer s).trigger = s.trigger ∧ (cancelPacer s).memory = s.memory ∧ (cancelPacer s).capture = s.capture ∧
    (cancelPacer s).delivery = s.delivery ∧ (cancelPacer s).notices = s.notices ∧
    (cancelPacer s).counters = s.counters ∧ (cancelPacer s).params = s.params ∧ (cancelPacer s).manager = s.manager ∧
    (cancelPacer s).intake = s.intake ∧ (cancelPacer s).deliveryPort = s.deliveryPort ∧
    (cancelPacer s).clock = s.clock ∧ (cancelPacer s).lines = s.lines ∧ (cancelPacer s).choices = s.choices ∧
    (cancelPacer s).pending = s.pending := by
  and_intros <;> rfl

@[simp] theorem endRun_keeps (cause : EndCause) (s : State) :
    (endRun cause s).sweeper.program = s.sweeper.program ∧ (endRun cause s).sweeper.fixedS = s.sweeper.fixedS ∧
    (endRun cause s).sweeper.burstCount = s.sweeper.burstCount ∧
    (endRun cause s).sweeper.sweepNumber = s.sweeper.sweepNumber ∧ (endRun cause s).sweeper.sweep = s.sweeper.sweep ∧
    (endRun cause s).sweeper.gapPending = s.sweeper.gapPending ∧
    (endRun cause s).sweeper.startLevel = s.sweeper.startLevel ∧ (endRun cause s).tracker = s.tracker ∧
    (endRun cause s).trigger = s.trigger ∧ (endRun cause s).memory = s.memory ∧ (endRun cause s).capture = s.capture ∧
    (endRun cause s).delivery = s.delivery ∧ (endRun cause s).counters.intakeBadFrames = s.counters.intakeBadFrames ∧
    (endRun cause s).counters.deliveryBadFrames = s.counters.deliveryBadFrames ∧
    (endRun cause s).counters.strayReplies = s.counters.strayReplies ∧
    (endRun cause s).counters.lateReplies = s.counters.lateReplies ∧
    (endRun cause s).counters.mismatchedReplies = s.counters.mismatchedReplies ∧
    (endRun cause s).counters.replyTimeouts = s.counters.replyTimeouts ∧
    (endRun cause s).counters.missedSweeps = s.counters.missedSweeps ∧
    (endRun cause s).counters.ignoredStartEdges = s.counters.ignoredStartEdges ∧
    (endRun cause s).counters.unstoredSweeps = s.counters.unstoredSweeps ∧
    (endRun cause s).counters.historySpaceDrops = s.counters.historySpaceDrops ∧
    (endRun cause s).counters.passbackDrops = s.counters.passbackDrops ∧
    (endRun cause s).counters.forwardDrops = s.counters.forwardDrops ∧
    (endRun cause s).counters.droppedRequests = s.counters.droppedRequests ∧ (endRun cause s).params = s.params ∧
    (endRun cause s).manager = s.manager ∧ (endRun cause s).intake = s.intake ∧
    (endRun cause s).deliveryPort = s.deliveryPort ∧ (endRun cause s).clock = s.clock ∧
    (endRun cause s).lines = s.lines ∧ (endRun cause s).choices = s.choices ∧
    (endRun cause s).pending = s.pending := by
  and_intros <;> simp only [endRun] <;> simp

@[simp] theorem beginStopping_keeps (cause : EndCause) (s : State) :
    (beginStopping cause s).sweeper.program = s.sweeper.program ∧
    (beginStopping cause s).sweeper.fixedS = s.sweeper.fixedS ∧
    (beginStopping cause s).sweeper.burstCount = s.sweeper.burstCount ∧
    (beginStopping cause s).sweeper.sweepNumber = s.sweeper.sweepNumber ∧
    (beginStopping cause s).sweeper.sweep = s.sweeper.sweep ∧
    (beginStopping cause s).sweeper.gapPending = s.sweeper.gapPending ∧
    (beginStopping cause s).sweeper.startLevel = s.sweeper.startLevel ∧ (beginStopping cause s).tracker = s.tracker ∧
    (beginStopping cause s).trigger = s.trigger ∧ (beginStopping cause s).memory = s.memory ∧
    (beginStopping cause s).capture = s.capture ∧ (beginStopping cause s).delivery = s.delivery ∧
    (beginStopping cause s).notices = s.notices ∧ (beginStopping cause s).counters = s.counters ∧
    (beginStopping cause s).params = s.params ∧ (beginStopping cause s).manager = s.manager ∧
    (beginStopping cause s).intake = s.intake ∧ (beginStopping cause s).deliveryPort = s.deliveryPort ∧
    (beginStopping cause s).clock = s.clock ∧ (beginStopping cause s).lines = s.lines ∧
    (beginStopping cause s).choices = s.choices ∧ (beginStopping cause s).pending = s.pending := by
  and_intros <;> rfl

@[simp] theorem haltStopDemand_keeps (s : State) :
    (haltStopDemand s).sweeper.program = s.sweeper.program ∧ (haltStopDemand s).sweeper.fixedS = s.sweeper.fixedS ∧
    (haltStopDemand s).sweeper.burstCount = s.sweeper.burstCount ∧
    (haltStopDemand s).sweeper.sweepNumber = s.sweeper.sweepNumber ∧
    (haltStopDemand s).sweeper.sweep = s.sweeper.sweep ∧
    (haltStopDemand s).sweeper.gapPending = s.sweeper.gapPending ∧
    (haltStopDemand s).sweeper.startLevel = s.sweeper.startLevel ∧ (haltStopDemand s).tracker = s.tracker ∧
    (haltStopDemand s).trigger = s.trigger ∧ (haltStopDemand s).memory = s.memory ∧
    (haltStopDemand s).capture = s.capture ∧ (haltStopDemand s).delivery = s.delivery ∧
    (haltStopDemand s).counters.intakeBadFrames = s.counters.intakeBadFrames ∧
    (haltStopDemand s).counters.deliveryBadFrames = s.counters.deliveryBadFrames ∧
    (haltStopDemand s).counters.strayReplies = s.counters.strayReplies ∧
    (haltStopDemand s).counters.lateReplies = s.counters.lateReplies ∧
    (haltStopDemand s).counters.mismatchedReplies = s.counters.mismatchedReplies ∧
    (haltStopDemand s).counters.replyTimeouts = s.counters.replyTimeouts ∧
    (haltStopDemand s).counters.missedSweeps = s.counters.missedSweeps ∧
    (haltStopDemand s).counters.ignoredStartEdges = s.counters.ignoredStartEdges ∧
    (haltStopDemand s).counters.unstoredSweeps = s.counters.unstoredSweeps ∧
    (haltStopDemand s).counters.historySpaceDrops = s.counters.historySpaceDrops ∧
    (haltStopDemand s).counters.passbackDrops = s.counters.passbackDrops ∧
    (haltStopDemand s).counters.forwardDrops = s.counters.forwardDrops ∧
    (haltStopDemand s).counters.droppedRequests = s.counters.droppedRequests ∧ (haltStopDemand s).params = s.params ∧
    (haltStopDemand s).manager = s.manager ∧ (haltStopDemand s).intake = s.intake ∧
    (haltStopDemand s).deliveryPort = s.deliveryPort ∧ (haltStopDemand s).clock = s.clock ∧
    (haltStopDemand s).lines = s.lines ∧ (haltStopDemand s).choices = s.choices ∧
    (haltStopDemand s).pending = s.pending := by
  and_intros <;> simp only [haltStopDemand] <;> (repeat' split) <;> simp

@[simp] theorem enterHalted_keeps (cause : HaltCause) (s : State) :
    (enterHalted cause s).sweeper.program = s.sweeper.program ∧
    (enterHalted cause s).sweeper.fixedS = s.sweeper.fixedS ∧
    (enterHalted cause s).sweeper.burstCount = s.sweeper.burstCount ∧
    (enterHalted cause s).sweeper.sweepNumber = s.sweeper.sweepNumber ∧
    (enterHalted cause s).sweeper.sweep = s.sweeper.sweep ∧
    (enterHalted cause s).sweeper.gapPending = s.sweeper.gapPending ∧
    (enterHalted cause s).sweeper.startLevel = s.sweeper.startLevel ∧ (enterHalted cause s).tracker = s.tracker ∧
    (enterHalted cause s).trigger = s.trigger ∧ (enterHalted cause s).memory = s.memory ∧
    (enterHalted cause s).capture.quota = s.capture.quota ∧ (enterHalted cause s).capture.nextId = s.capture.nextId ∧
    (enterHalted cause s).capture.openRecord = s.capture.openRecord ∧ (enterHalted cause s).delivery = s.delivery ∧
    (enterHalted cause s).counters.intakeBadFrames = s.counters.intakeBadFrames ∧
    (enterHalted cause s).counters.deliveryBadFrames = s.counters.deliveryBadFrames ∧
    (enterHalted cause s).counters.strayReplies = s.counters.strayReplies ∧
    (enterHalted cause s).counters.lateReplies = s.counters.lateReplies ∧
    (enterHalted cause s).counters.mismatchedReplies = s.counters.mismatchedReplies ∧
    (enterHalted cause s).counters.replyTimeouts = s.counters.replyTimeouts ∧
    (enterHalted cause s).counters.missedSweeps = s.counters.missedSweeps ∧
    (enterHalted cause s).counters.ignoredStartEdges = s.counters.ignoredStartEdges ∧
    (enterHalted cause s).counters.unstoredSweeps = s.counters.unstoredSweeps ∧
    (enterHalted cause s).counters.historySpaceDrops = s.counters.historySpaceDrops ∧
    (enterHalted cause s).counters.passbackDrops = s.counters.passbackDrops ∧
    (enterHalted cause s).counters.forwardDrops = s.counters.forwardDrops ∧
    (enterHalted cause s).counters.droppedRequests = s.counters.droppedRequests ∧
    (enterHalted cause s).params = s.params ∧ (enterHalted cause s).manager = s.manager ∧
    (enterHalted cause s).intake = s.intake ∧ (enterHalted cause s).deliveryPort = s.deliveryPort ∧
    (enterHalted cause s).clock = s.clock ∧ (enterHalted cause s).lines = s.lines ∧
    (enterHalted cause s).choices = s.choices ∧ (enterHalted cause s).pending = s.pending := by
  and_intros <;> simp only [enterHalted] <;> simp

@[simp] theorem armNow_keeps (s : State) :
    (armNow s).sweeper = s.sweeper ∧ (armNow s).tracker = s.tracker ∧
    (armNow s).trigger.conditions = s.trigger.conditions ∧ (armNow s).trigger.forced = s.trigger.forced ∧
    (armNow s).trigger.trigout = s.trigger.trigout ∧ (armNow s).trigger.pulse = s.trigger.pulse ∧
    (armNow s).memory.history = s.memory.history ∧ (armNow s).memory.current = s.memory.current ∧
    (armNow s).capture.haltCause = s.capture.haltCause ∧ (armNow s).capture.quota = s.capture.quota ∧
    (armNow s).capture.nextId = s.capture.nextId ∧ (armNow s).capture.openRecord = s.capture.openRecord ∧
    (armNow s).delivery = s.delivery ∧ (armNow s).notices = s.notices ∧ (armNow s).counters = s.counters ∧
    (armNow s).params = s.params ∧ (armNow s).manager = s.manager ∧ (armNow s).intake = s.intake ∧
    (armNow s).deliveryPort = s.deliveryPort ∧ (armNow s).clock = s.clock ∧ (armNow s).lines = s.lines ∧
    (armNow s).choices = s.choices ∧ (armNow s).pending = s.pending := by
  and_intros <;> rfl

@[simp] theorem rearm_keeps (s : State) :
    (rearm s).sweeper.program = s.sweeper.program ∧ (rearm s).sweeper.fixedS = s.sweeper.fixedS ∧
    (rearm s).sweeper.burstCount = s.sweeper.burstCount ∧ (rearm s).sweeper.sweepNumber = s.sweeper.sweepNumber ∧
    (rearm s).sweeper.sweep = s.sweeper.sweep ∧ (rearm s).sweeper.gapPending = s.sweeper.gapPending ∧
    (rearm s).sweeper.startLevel = s.sweeper.startLevel ∧ (rearm s).tracker = s.tracker ∧
    (rearm s).trigger.conditions = s.trigger.conditions ∧ (rearm s).trigger.forced = s.trigger.forced ∧
    (rearm s).trigger.trigout = s.trigger.trigout ∧ (rearm s).trigger.pulse = s.trigger.pulse ∧
    (rearm s).memory.history = s.memory.history ∧ (rearm s).memory.current = s.memory.current ∧
    (rearm s).capture.quota = s.capture.quota ∧ (rearm s).capture.nextId = s.capture.nextId ∧
    (rearm s).capture.openRecord = s.capture.openRecord ∧ (rearm s).delivery = s.delivery ∧
    (rearm s).counters.intakeBadFrames = s.counters.intakeBadFrames ∧
    (rearm s).counters.deliveryBadFrames = s.counters.deliveryBadFrames ∧
    (rearm s).counters.strayReplies = s.counters.strayReplies ∧
    (rearm s).counters.lateReplies = s.counters.lateReplies ∧
    (rearm s).counters.mismatchedReplies = s.counters.mismatchedReplies ∧
    (rearm s).counters.replyTimeouts = s.counters.replyTimeouts ∧
    (rearm s).counters.missedSweeps = s.counters.missedSweeps ∧
    (rearm s).counters.ignoredStartEdges = s.counters.ignoredStartEdges ∧
    (rearm s).counters.unstoredSweeps = s.counters.unstoredSweeps ∧
    (rearm s).counters.historySpaceDrops = s.counters.historySpaceDrops ∧
    (rearm s).counters.passbackDrops = s.counters.passbackDrops ∧
    (rearm s).counters.forwardDrops = s.counters.forwardDrops ∧
    (rearm s).counters.droppedRequests = s.counters.droppedRequests ∧ (rearm s).params = s.params ∧
    (rearm s).manager = s.manager ∧ (rearm s).intake = s.intake ∧ (rearm s).deliveryPort = s.deliveryPort ∧
    (rearm s).clock = s.clock ∧ (rearm s).lines = s.lines ∧ (rearm s).choices = s.choices ∧
    (rearm s).pending = s.pending := by
  and_intros <;> simp only [rearm] <;> (repeat' split) <;> simp

@[simp] theorem quotaPath_keeps (s : State) :
    (quotaPath s).sweeper.program = s.sweeper.program ∧ (quotaPath s).sweeper.fixedS = s.sweeper.fixedS ∧
    (quotaPath s).sweeper.burstCount = s.sweeper.burstCount ∧
    (quotaPath s).sweeper.sweepNumber = s.sweeper.sweepNumber ∧ (quotaPath s).sweeper.sweep = s.sweeper.sweep ∧
    (quotaPath s).sweeper.gapPending = s.sweeper.gapPending ∧
    (quotaPath s).sweeper.startLevel = s.sweeper.startLevel ∧ (quotaPath s).tracker = s.tracker ∧
    (quotaPath s).trigger.conditions = s.trigger.conditions ∧ (quotaPath s).trigger.forced = s.trigger.forced ∧
    (quotaPath s).trigger.trigout = s.trigger.trigout ∧ (quotaPath s).trigger.pulse = s.trigger.pulse ∧
    (quotaPath s).memory.history = s.memory.history ∧ (quotaPath s).memory.current = s.memory.current ∧
    (quotaPath s).capture.nextId = s.capture.nextId ∧ (quotaPath s).capture.openRecord = s.capture.openRecord ∧
    (quotaPath s).delivery = s.delivery ∧ (quotaPath s).counters.intakeBadFrames = s.counters.intakeBadFrames ∧
    (quotaPath s).counters.deliveryBadFrames = s.counters.deliveryBadFrames ∧
    (quotaPath s).counters.strayReplies = s.counters.strayReplies ∧
    (quotaPath s).counters.lateReplies = s.counters.lateReplies ∧
    (quotaPath s).counters.mismatchedReplies = s.counters.mismatchedReplies ∧
    (quotaPath s).counters.replyTimeouts = s.counters.replyTimeouts ∧
    (quotaPath s).counters.missedSweeps = s.counters.missedSweeps ∧
    (quotaPath s).counters.ignoredStartEdges = s.counters.ignoredStartEdges ∧
    (quotaPath s).counters.unstoredSweeps = s.counters.unstoredSweeps ∧
    (quotaPath s).counters.historySpaceDrops = s.counters.historySpaceDrops ∧
    (quotaPath s).counters.passbackDrops = s.counters.passbackDrops ∧
    (quotaPath s).counters.forwardDrops = s.counters.forwardDrops ∧
    (quotaPath s).counters.droppedRequests = s.counters.droppedRequests ∧ (quotaPath s).params = s.params ∧
    (quotaPath s).manager = s.manager ∧ (quotaPath s).intake = s.intake ∧
    (quotaPath s).deliveryPort = s.deliveryPort ∧ (quotaPath s).clock = s.clock ∧ (quotaPath s).lines = s.lines ∧
    (quotaPath s).choices = s.choices ∧ (quotaPath s).pending = s.pending := by
  and_intros <;> simp only [quotaPath] <;> (repeat' split) <;> simp

@[simp] theorem closeRecord_keeps (truncated cut : Bool) (s : State) :
    (closeRecord truncated cut s).sweeper = s.sweeper ∧ (closeRecord truncated cut s).tracker = s.tracker ∧
    (closeRecord truncated cut s).trigger.conditions = s.trigger.conditions ∧
    (closeRecord truncated cut s).trigger.stage = s.trigger.stage ∧
    (closeRecord truncated cut s).trigger.forced = s.trigger.forced ∧
    (closeRecord truncated cut s).trigger.pulse = s.trigger.pulse ∧ (closeRecord truncated cut s).memory = s.memory ∧
    (closeRecord truncated cut s).capture.state = s.capture.state ∧
    (closeRecord truncated cut s).capture.haltCause = s.capture.haltCause ∧
    (closeRecord truncated cut s).capture.nextId = s.capture.nextId ∧
    (closeRecord truncated cut s).delivery.windowA = s.delivery.windowA ∧
    (closeRecord truncated cut s).delivery.windowB = s.delivery.windowB ∧
    (closeRecord truncated cut s).delivery.current = s.delivery.current ∧
    (closeRecord truncated cut s).delivery.position = s.delivery.position ∧
    (closeRecord truncated cut s).delivery.note = s.delivery.note ∧
    (closeRecord truncated cut s).counters.intakeBadFrames = s.counters.intakeBadFrames ∧
    (closeRecord truncated cut s).counters.deliveryBadFrames = s.counters.deliveryBadFrames ∧
    (closeRecord truncated cut s).counters.strayReplies = s.counters.strayReplies ∧
    (closeRecord truncated cut s).counters.lateReplies = s.counters.lateReplies ∧
    (closeRecord truncated cut s).counters.mismatchedReplies = s.counters.mismatchedReplies ∧
    (closeRecord truncated cut s).counters.replyTimeouts = s.counters.replyTimeouts ∧
    (closeRecord truncated cut s).counters.missedSweeps = s.counters.missedSweeps ∧
    (closeRecord truncated cut s).counters.ignoredStartEdges = s.counters.ignoredStartEdges ∧
    (closeRecord truncated cut s).counters.unstoredSweeps = s.counters.unstoredSweeps ∧
    (closeRecord truncated cut s).counters.historySpaceDrops = s.counters.historySpaceDrops ∧
    (closeRecord truncated cut s).counters.passbackDrops = s.counters.passbackDrops ∧
    (closeRecord truncated cut s).counters.forwardDrops = s.counters.forwardDrops ∧
    (closeRecord truncated cut s).counters.droppedRequests = s.counters.droppedRequests ∧
    (closeRecord truncated cut s).params = s.params ∧ (closeRecord truncated cut s).manager = s.manager ∧
    (closeRecord truncated cut s).intake = s.intake ∧ (closeRecord truncated cut s).deliveryPort = s.deliveryPort ∧
    (closeRecord truncated cut s).clock = s.clock ∧ (closeRecord truncated cut s).lines = s.lines ∧
    (closeRecord truncated cut s).choices = s.choices ∧ (closeRecord truncated cut s).pending = s.pending := by
  and_intros <;> simp only [closeRecord] <;> (repeat' split) <;> simp

@[simp] theorem closeNormally_keeps (s : State) :
    (closeNormally s).sweeper.program = s.sweeper.program ∧ (closeNormally s).sweeper.fixedS = s.sweeper.fixedS ∧
    (closeNormally s).sweeper.burstCount = s.sweeper.burstCount ∧
    (closeNormally s).sweeper.sweepNumber = s.sweeper.sweepNumber ∧
    (closeNormally s).sweeper.sweep = s.sweeper.sweep ∧ (closeNormally s).sweeper.gapPending = s.sweeper.gapPending ∧
    (closeNormally s).sweeper.startLevel = s.sweeper.startLevel ∧ (closeNormally s).tracker = s.tracker ∧
    (closeNormally s).trigger.conditions = s.trigger.conditions ∧
    (closeNormally s).trigger.forced = s.trigger.forced ∧ (closeNormally s).trigger.pulse = s.trigger.pulse ∧
    (closeNormally s).memory.history = s.memory.history ∧ (closeNormally s).memory.current = s.memory.current ∧
    (closeNormally s).capture.nextId = s.capture.nextId ∧ (closeNormally s).delivery.windowA = s.delivery.windowA ∧
    (closeNormally s).delivery.windowB = s.delivery.windowB ∧
    (closeNormally s).delivery.current = s.delivery.current ∧
    (closeNormally s).delivery.position = s.delivery.position ∧ (closeNormally s).delivery.note = s.delivery.note ∧
    (closeNormally s).counters.intakeBadFrames = s.counters.intakeBadFrames ∧
    (closeNormally s).counters.deliveryBadFrames = s.counters.deliveryBadFrames ∧
    (closeNormally s).counters.strayReplies = s.counters.strayReplies ∧
    (closeNormally s).counters.lateReplies = s.counters.lateReplies ∧
    (closeNormally s).counters.mismatchedReplies = s.counters.mismatchedReplies ∧
    (closeNormally s).counters.replyTimeouts = s.counters.replyTimeouts ∧
    (closeNormally s).counters.missedSweeps = s.counters.missedSweeps ∧
    (closeNormally s).counters.ignoredStartEdges = s.counters.ignoredStartEdges ∧
    (closeNormally s).counters.unstoredSweeps = s.counters.unstoredSweeps ∧
    (closeNormally s).counters.historySpaceDrops = s.counters.historySpaceDrops ∧
    (closeNormally s).counters.passbackDrops = s.counters.passbackDrops ∧
    (closeNormally s).counters.forwardDrops = s.counters.forwardDrops ∧
    (closeNormally s).counters.droppedRequests = s.counters.droppedRequests ∧ (closeNormally s).params = s.params ∧
    (closeNormally s).manager = s.manager ∧ (closeNormally s).intake = s.intake ∧
    (closeNormally s).deliveryPort = s.deliveryPort ∧ (closeNormally s).clock = s.clock ∧
    (closeNormally s).lines = s.lines ∧ (closeNormally s).choices = s.choices ∧
    (closeNormally s).pending = s.pending := by
  and_intros <;> simp only [closeNormally] <;> simp

@[simp] theorem closeTruncated_keeps (s : State) :
    (closeTruncated s).sweeper.program = s.sweeper.program ∧ (closeTruncated s).sweeper.fixedS = s.sweeper.fixedS ∧
    (closeTruncated s).sweeper.burstCount = s.sweeper.burstCount ∧
    (closeTruncated s).sweeper.sweepNumber = s.sweeper.sweepNumber ∧
    (closeTruncated s).sweeper.sweep = s.sweeper.sweep ∧
    (closeTruncated s).sweeper.gapPending = s.sweeper.gapPending ∧
    (closeTruncated s).sweeper.startLevel = s.sweeper.startLevel ∧ (closeTruncated s).tracker = s.tracker ∧
    (closeTruncated s).trigger.conditions = s.trigger.conditions ∧
    (closeTruncated s).trigger.stage = s.trigger.stage ∧ (closeTruncated s).trigger.forced = s.trigger.forced ∧
    (closeTruncated s).trigger.pulse = s.trigger.pulse ∧ (closeTruncated s).memory = s.memory ∧
    (closeTruncated s).capture.nextId = s.capture.nextId ∧ (closeTruncated s).delivery.windowA = s.delivery.windowA ∧
    (closeTruncated s).delivery.windowB = s.delivery.windowB ∧
    (closeTruncated s).delivery.current = s.delivery.current ∧
    (closeTruncated s).delivery.position = s.delivery.position ∧ (closeTruncated s).delivery.note = s.delivery.note ∧
    (closeTruncated s).counters.intakeBadFrames = s.counters.intakeBadFrames ∧
    (closeTruncated s).counters.deliveryBadFrames = s.counters.deliveryBadFrames ∧
    (closeTruncated s).counters.strayReplies = s.counters.strayReplies ∧
    (closeTruncated s).counters.lateReplies = s.counters.lateReplies ∧
    (closeTruncated s).counters.mismatchedReplies = s.counters.mismatchedReplies ∧
    (closeTruncated s).counters.replyTimeouts = s.counters.replyTimeouts ∧
    (closeTruncated s).counters.missedSweeps = s.counters.missedSweeps ∧
    (closeTruncated s).counters.ignoredStartEdges = s.counters.ignoredStartEdges ∧
    (closeTruncated s).counters.unstoredSweeps = s.counters.unstoredSweeps ∧
    (closeTruncated s).counters.historySpaceDrops = s.counters.historySpaceDrops ∧
    (closeTruncated s).counters.passbackDrops = s.counters.passbackDrops ∧
    (closeTruncated s).counters.forwardDrops = s.counters.forwardDrops ∧
    (closeTruncated s).counters.droppedRequests = s.counters.droppedRequests ∧ (closeTruncated s).params = s.params ∧
    (closeTruncated s).manager = s.manager ∧ (closeTruncated s).intake = s.intake ∧
    (closeTruncated s).deliveryPort = s.deliveryPort ∧ (closeTruncated s).clock = s.clock ∧
    (closeTruncated s).lines = s.lines ∧ (closeTruncated s).choices = s.choices ∧
    (closeTruncated s).pending = s.pending := by
  and_intros <;> simp only [closeTruncated] <;> simp

@[simp] theorem runEndReport_keeps (s : State) :
    (runEndReport s).sweeper.program = s.sweeper.program ∧ (runEndReport s).sweeper.fixedS = s.sweeper.fixedS ∧
    (runEndReport s).sweeper.burstCount = s.sweeper.burstCount ∧
    (runEndReport s).sweeper.sweepNumber = s.sweeper.sweepNumber ∧ (runEndReport s).sweeper.sweep = s.sweeper.sweep ∧
    (runEndReport s).sweeper.gapPending = s.sweeper.gapPending ∧
    (runEndReport s).sweeper.startLevel = s.sweeper.startLevel ∧ (runEndReport s).tracker = s.tracker ∧
    (runEndReport s).trigger.conditions = s.trigger.conditions ∧ (runEndReport s).trigger.forced = s.trigger.forced ∧
    (runEndReport s).trigger.pulse = s.trigger.pulse ∧ (runEndReport s).memory.history = s.memory.history ∧
    (runEndReport s).memory.current = s.memory.current ∧ (runEndReport s).capture.nextId = s.capture.nextId ∧
    (runEndReport s).delivery.windowA = s.delivery.windowA ∧ (runEndReport s).delivery.windowB = s.delivery.windowB ∧
    (runEndReport s).delivery.current = s.delivery.current ∧
    (runEndReport s).delivery.position = s.delivery.position ∧ (runEndReport s).delivery.note = s.delivery.note ∧
    (runEndReport s).counters.intakeBadFrames = s.counters.intakeBadFrames ∧
    (runEndReport s).counters.deliveryBadFrames = s.counters.deliveryBadFrames ∧
    (runEndReport s).counters.strayReplies = s.counters.strayReplies ∧
    (runEndReport s).counters.lateReplies = s.counters.lateReplies ∧
    (runEndReport s).counters.mismatchedReplies = s.counters.mismatchedReplies ∧
    (runEndReport s).counters.replyTimeouts = s.counters.replyTimeouts ∧
    (runEndReport s).counters.missedSweeps = s.counters.missedSweeps ∧
    (runEndReport s).counters.ignoredStartEdges = s.counters.ignoredStartEdges ∧
    (runEndReport s).counters.unstoredSweeps = s.counters.unstoredSweeps ∧
    (runEndReport s).counters.historySpaceDrops = s.counters.historySpaceDrops ∧
    (runEndReport s).counters.passbackDrops = s.counters.passbackDrops ∧
    (runEndReport s).counters.forwardDrops = s.counters.forwardDrops ∧
    (runEndReport s).counters.droppedRequests = s.counters.droppedRequests ∧ (runEndReport s).params = s.params ∧
    (runEndReport s).manager = s.manager ∧ (runEndReport s).intake = s.intake ∧
    (runEndReport s).deliveryPort = s.deliveryPort ∧ (runEndReport s).clock = s.clock ∧
    (runEndReport s).lines = s.lines ∧ (runEndReport s).choices = s.choices ∧
    (runEndReport s).pending = s.pending := by
  and_intros <;> simp only [runEndReport] <;> (repeat' split) <;> simp

@[simp] theorem openRecord_keeps (cause : Cause) (number : Word) (s : State) :
    (openRecord cause number s).sweeper = s.sweeper ∧ (openRecord cause number s).tracker = s.tracker ∧
    (openRecord cause number s).trigger.conditions = s.trigger.conditions ∧
    (openRecord cause number s).trigger.forced = s.trigger.forced ∧
    (openRecord cause number s).memory.free = s.memory.free ∧
    (openRecord cause number s).capture.haltCause = s.capture.haltCause ∧
    (openRecord cause number s).capture.quota = s.capture.quota ∧ (openRecord cause number s).delivery = s.delivery ∧
    (openRecord cause number s).counters.intakeBadFrames = s.counters.intakeBadFrames ∧
    (openRecord cause number s).counters.deliveryBadFrames = s.counters.deliveryBadFrames ∧
    (openRecord cause number s).counters.strayReplies = s.counters.strayReplies ∧
    (openRecord cause number s).counters.lateReplies = s.counters.lateReplies ∧
    (openRecord cause number s).counters.mismatchedReplies = s.counters.mismatchedReplies ∧
    (openRecord cause number s).counters.replyTimeouts = s.counters.replyTimeouts ∧
    (openRecord cause number s).counters.missedSweeps = s.counters.missedSweeps ∧
    (openRecord cause number s).counters.ignoredStartEdges = s.counters.ignoredStartEdges ∧
    (openRecord cause number s).counters.unstoredSweeps = s.counters.unstoredSweeps ∧
    (openRecord cause number s).counters.historySpaceDrops = s.counters.historySpaceDrops ∧
    (openRecord cause number s).counters.passbackDrops = s.counters.passbackDrops ∧
    (openRecord cause number s).counters.forwardDrops = s.counters.forwardDrops ∧
    (openRecord cause number s).counters.droppedRequests = s.counters.droppedRequests ∧
    (openRecord cause number s).params = s.params ∧ (openRecord cause number s).manager = s.manager ∧
    (openRecord cause number s).intake = s.intake ∧ (openRecord cause number s).deliveryPort = s.deliveryPort ∧
    (openRecord cause number s).clock = s.clock ∧ (openRecord cause number s).lines = s.lines ∧
    (openRecord cause number s).choices = s.choices ∧ (openRecord cause number s).pending = s.pending := by
  and_intros <;> simp only [openRecord] <;> simp

@[simp] theorem postAppend_keeps (s : State) :
    (postAppend s).sweeper.program = s.sweeper.program ∧ (postAppend s).sweeper.fixedS = s.sweeper.fixedS ∧
    (postAppend s).sweeper.burstCount = s.sweeper.burstCount ∧
    (postAppend s).sweeper.sweepNumber = s.sweeper.sweepNumber ∧ (postAppend s).sweeper.sweep = s.sweeper.sweep ∧
    (postAppend s).sweeper.gapPending = s.sweeper.gapPending ∧
    (postAppend s).sweeper.startLevel = s.sweeper.startLevel ∧ (postAppend s).tracker = s.tracker ∧
    (postAppend s).trigger.conditions = s.trigger.conditions ∧ (postAppend s).trigger.forced = s.trigger.forced ∧
    (postAppend s).trigger.pulse = s.trigger.pulse ∧ (postAppend s).memory.history = s.memory.history ∧
    (postAppend s).capture.nextId = s.capture.nextId ∧ (postAppend s).delivery.windowA = s.delivery.windowA ∧
    (postAppend s).delivery.windowB = s.delivery.windowB ∧ (postAppend s).delivery.current = s.delivery.current ∧
    (postAppend s).delivery.position = s.delivery.position ∧ (postAppend s).delivery.note = s.delivery.note ∧
    (postAppend s).counters.intakeBadFrames = s.counters.intakeBadFrames ∧
    (postAppend s).counters.deliveryBadFrames = s.counters.deliveryBadFrames ∧
    (postAppend s).counters.strayReplies = s.counters.strayReplies ∧
    (postAppend s).counters.lateReplies = s.counters.lateReplies ∧
    (postAppend s).counters.mismatchedReplies = s.counters.mismatchedReplies ∧
    (postAppend s).counters.replyTimeouts = s.counters.replyTimeouts ∧
    (postAppend s).counters.missedSweeps = s.counters.missedSweeps ∧
    (postAppend s).counters.ignoredStartEdges = s.counters.ignoredStartEdges ∧
    (postAppend s).counters.unstoredSweeps = s.counters.unstoredSweeps ∧
    (postAppend s).counters.historySpaceDrops = s.counters.historySpaceDrops ∧
    (postAppend s).counters.passbackDrops = s.counters.passbackDrops ∧
    (postAppend s).counters.forwardDrops = s.counters.forwardDrops ∧
    (postAppend s).counters.droppedRequests = s.counters.droppedRequests ∧ (postAppend s).params = s.params ∧
    (postAppend s).manager = s.manager ∧ (postAppend s).intake = s.intake ∧
    (postAppend s).deliveryPort = s.deliveryPort ∧ (postAppend s).clock = s.clock ∧ (postAppend s).lines = s.lines ∧
    (postAppend s).choices = s.choices ∧ (postAppend s).pending = s.pending := by
  and_intros <;> simp only [postAppend] <;> (repeat' split) <;> simp

@[simp] theorem receiveCompleted_keeps (v : Verdict) (number : Word) (s : State) :
    (receiveCompleted v number s).sweeper.program = s.sweeper.program ∧
    (receiveCompleted v number s).sweeper.fixedS = s.sweeper.fixedS ∧
    (receiveCompleted v number s).sweeper.burstCount = s.sweeper.burstCount ∧
    (receiveCompleted v number s).sweeper.sweepNumber = s.sweeper.sweepNumber ∧
    (receiveCompleted v number s).sweeper.sweep = s.sweeper.sweep ∧
    (receiveCompleted v number s).sweeper.gapPending = s.sweeper.gapPending ∧
    (receiveCompleted v number s).sweeper.startLevel = s.sweeper.startLevel ∧
    (receiveCompleted v number s).tracker = s.tracker ∧
    (receiveCompleted v number s).trigger.conditions = s.trigger.conditions ∧
    (receiveCompleted v number s).trigger.forced = s.trigger.forced ∧
    (receiveCompleted v number s).delivery.windowA = s.delivery.windowA ∧
    (receiveCompleted v number s).delivery.windowB = s.delivery.windowB ∧
    (receiveCompleted v number s).delivery.current = s.delivery.current ∧
    (receiveCompleted v number s).delivery.position = s.delivery.position ∧
    (receiveCompleted v number s).delivery.note = s.delivery.note ∧
    (receiveCompleted v number s).counters.intakeBadFrames = s.counters.intakeBadFrames ∧
    (receiveCompleted v number s).counters.deliveryBadFrames = s.counters.deliveryBadFrames ∧
    (receiveCompleted v number s).counters.strayReplies = s.counters.strayReplies ∧
    (receiveCompleted v number s).counters.lateReplies = s.counters.lateReplies ∧
    (receiveCompleted v number s).counters.mismatchedReplies = s.counters.mismatchedReplies ∧
    (receiveCompleted v number s).counters.replyTimeouts = s.counters.replyTimeouts ∧
    (receiveCompleted v number s).counters.missedSweeps = s.counters.missedSweeps ∧
    (receiveCompleted v number s).counters.ignoredStartEdges = s.counters.ignoredStartEdges ∧
    (receiveCompleted v number s).counters.unstoredSweeps = s.counters.unstoredSweeps ∧
    (receiveCompleted v number s).counters.historySpaceDrops = s.counters.historySpaceDrops ∧
    (receiveCompleted v number s).counters.passbackDrops = s.counters.passbackDrops ∧
    (receiveCompleted v number s).counters.forwardDrops = s.counters.forwardDrops ∧
    (receiveCompleted v number s).counters.droppedRequests = s.counters.droppedRequests ∧
    (receiveCompleted v number s).params = s.params ∧ (receiveCompleted v number s).manager = s.manager ∧
    (receiveCompleted v number s).intake = s.intake ∧ (receiveCompleted v number s).deliveryPort = s.deliveryPort ∧
    (receiveCompleted v number s).clock = s.clock ∧ (receiveCompleted v number s).lines = s.lines ∧
    (receiveCompleted v number s).choices = s.choices ∧ (receiveCompleted v number s).pending = s.pending := by
  and_intros <;> simp only [receiveCompleted] <;> (repeat' split) <;> simp

@[simp] theorem blockRequest_keeps (r : SweepRecord) (s : State) :
    (blockRequest r s).sweeper.program = s.sweeper.program ∧ (blockRequest r s).sweeper.fixedS = s.sweeper.fixedS ∧
    (blockRequest r s).sweeper.burstCount = s.sweeper.burstCount ∧
    (blockRequest r s).sweeper.sweepNumber = s.sweeper.sweepNumber ∧
    (blockRequest r s).sweeper.sweep = s.sweeper.sweep ∧
    (blockRequest r s).sweeper.gapPending = s.sweeper.gapPending ∧
    (blockRequest r s).sweeper.startLevel = s.sweeper.startLevel ∧ (blockRequest r s).tracker = s.tracker ∧
    (blockRequest r s).trigger.conditions = s.trigger.conditions ∧
    (blockRequest r s).trigger.stage = s.trigger.stage ∧ (blockRequest r s).trigger.forced = s.trigger.forced ∧
    (blockRequest r s).trigger.pulse = s.trigger.pulse ∧
    (blockRequest r s).memory.reservation = s.memory.reservation ∧
    (blockRequest r s).capture.nextId = s.capture.nextId ∧ (blockRequest r s).delivery.windowA = s.delivery.windowA ∧
    (blockRequest r s).delivery.windowB = s.delivery.windowB ∧
    (blockRequest r s).delivery.current = s.delivery.current ∧
    (blockRequest r s).delivery.position = s.delivery.position ∧ (blockRequest r s).delivery.note = s.delivery.note ∧
    (blockRequest r s).counters.intakeBadFrames = s.counters.intakeBadFrames ∧
    (blockRequest r s).counters.deliveryBadFrames = s.counters.deliveryBadFrames ∧
    (blockRequest r s).counters.strayReplies = s.counters.strayReplies ∧
    (blockRequest r s).counters.lateReplies = s.counters.lateReplies ∧
    (blockRequest r s).counters.mismatchedReplies = s.counters.mismatchedReplies ∧
    (blockRequest r s).counters.replyTimeouts = s.counters.replyTimeouts ∧
    (blockRequest r s).counters.missedSweeps = s.counters.missedSweeps ∧
    (blockRequest r s).counters.ignoredStartEdges = s.counters.ignoredStartEdges ∧
    (blockRequest r s).counters.passbackDrops = s.counters.passbackDrops ∧
    (blockRequest r s).counters.forwardDrops = s.counters.forwardDrops ∧
    (blockRequest r s).counters.droppedRequests = s.counters.droppedRequests ∧ (blockRequest r s).params = s.params ∧
    (blockRequest r s).manager = s.manager ∧ (blockRequest r s).intake = s.intake ∧
    (blockRequest r s).deliveryPort = s.deliveryPort ∧ (blockRequest r s).clock = s.clock ∧
    (blockRequest r s).lines = s.lines ∧ (blockRequest r s).choices = s.choices ∧
    (blockRequest r s).pending = s.pending := by
  and_intros <;> simp only [blockRequest] <;> (repeat' split) <;> simp

end Sys2Proof.Machine
end

