-- ==== Sys2Proof/Laws/Sweep.lean ====
section
/-! SUPPORT. Frames: what the operations of a sweep leave as they were; each lemma is one conjunction of projections, for simp. -/

namespace Sys2Proof.Machine

@[simp] theorem answerDeferredStop_keeps (s : State) :
    (answerDeferredStop s).sweeper = s.sweeper ∧ (answerDeferredStop s).tracker = s.tracker ∧
    (answerDeferredStop s).trigger = s.trigger ∧ (answerDeferredStop s).memory = s.memory ∧
    (answerDeferredStop s).capture = s.capture ∧ (answerDeferredStop s).delivery = s.delivery ∧
    (answerDeferredStop s).notices = s.notices ∧ (answerDeferredStop s).counters = s.counters ∧
    (answerDeferredStop s).params = s.params ∧ (answerDeferredStop s).manager.node = s.manager.node ∧
    (answerDeferredStop s).manager.requests = s.manager.requests ∧
    (answerDeferredStop s).manager.resetHold = s.manager.resetHold ∧ (answerDeferredStop s).intake = s.intake ∧
    (answerDeferredStop s).deliveryPort = s.deliveryPort ∧ (answerDeferredStop s).clock = s.clock ∧
    (answerDeferredStop s).lines = s.lines ∧ (answerDeferredStop s).choices = s.choices ∧
    (answerDeferredStop s).pending = s.pending := by
  and_intros <;> simp only [answerDeferredStop] <;> (repeat' split) <;> simp

@[simp] theorem runAfterCompletion_keeps (s : State) :
    (runAfterCompletion s).sweeper.program = s.sweeper.program ∧
    (runAfterCompletion s).sweeper.fixedS = s.sweeper.fixedS ∧
    (runAfterCompletion s).sweeper.burstCount = s.sweeper.burstCount ∧
    (runAfterCompletion s).sweeper.sweepNumber = s.sweeper.sweepNumber ∧
    (runAfterCompletion s).sweeper.sweep = s.sweeper.sweep ∧
    (runAfterCompletion s).sweeper.gapPending = s.sweeper.gapPending ∧
    (runAfterCompletion s).sweeper.startLevel = s.sweeper.startLevel ∧ (runAfterCompletion s).tracker = s.tracker ∧
    (runAfterCompletion s).trigger = s.trigger ∧ (runAfterCompletion s).memory = s.memory ∧
    (runAfterCompletion s).capture = s.capture ∧ (runAfterCompletion s).delivery = s.delivery ∧
    (runAfterCompletion s).counters.intakeBadFrames = s.counters.intakeBadFrames ∧
    (runAfterCompletion s).counters.deliveryBadFrames = s.counters.deliveryBadFrames ∧
    (runAfterCompletion s).counters.strayReplies = s.counters.strayReplies ∧
    (runAfterCompletion s).counters.lateReplies = s.counters.lateReplies ∧
    (runAfterCompletion s).counters.mismatchedReplies = s.counters.mismatchedReplies ∧
    (runAfterCompletion s).counters.replyTimeouts = s.counters.replyTimeouts ∧
    (runAfterCompletion s).counters.missedSweeps = s.counters.missedSweeps ∧
    (runAfterCompletion s).counters.ignoredStartEdges = s.counters.ignoredStartEdges ∧
    (runAfterCompletion s).counters.unstoredSweeps = s.counters.unstoredSweeps ∧
    (runAfterCompletion s).counters.historySpaceDrops = s.counters.historySpaceDrops ∧
    (runAfterCompletion s).counters.passbackDrops = s.counters.passbackDrops ∧
    (runAfterCompletion s).counters.forwardDrops = s.counters.forwardDrops ∧
    (runAfterCompletion s).counters.droppedRequests = s.counters.droppedRequests ∧
    (runAfterCompletion s).params = s.params ∧ (runAfterCompletion s).manager.node = s.manager.node ∧
    (runAfterCompletion s).manager.requests = s.manager.requests ∧
    (runAfterCompletion s).manager.resetHold = s.manager.resetHold ∧ (runAfterCompletion s).intake = s.intake ∧
    (runAfterCompletion s).deliveryPort = s.deliveryPort ∧ (runAfterCompletion s).clock = s.clock ∧
    (runAfterCompletion s).lines = s.lines ∧ (runAfterCompletion s).choices = s.choices ∧
    (runAfterCompletion s).pending = s.pending := by
  and_intros <;> simp only [runAfterCompletion] <;> (repeat' split) <;> simp

@[simp] theorem judgeSweep_keeps (number : Word) (s : State) :
    (judgeSweep number s).sweeper.program = s.sweeper.program ∧
    (judgeSweep number s).sweeper.fixedS = s.sweeper.fixedS ∧
    (judgeSweep number s).sweeper.burstCount = s.sweeper.burstCount ∧
    (judgeSweep number s).sweeper.sweepNumber = s.sweeper.sweepNumber ∧
    (judgeSweep number s).sweeper.sweep = s.sweeper.sweep ∧
    (judgeSweep number s).sweeper.gapPending = s.sweeper.gapPending ∧
    (judgeSweep number s).sweeper.startLevel = s.sweeper.startLevel ∧ (judgeSweep number s).tracker = s.tracker ∧
    (judgeSweep number s).trigger.conditions = s.trigger.conditions ∧
    (judgeSweep number s).delivery.windowA = s.delivery.windowA ∧
    (judgeSweep number s).delivery.windowB = s.delivery.windowB ∧
    (judgeSweep number s).delivery.current = s.delivery.current ∧
    (judgeSweep number s).delivery.position = s.delivery.position ∧
    (judgeSweep number s).delivery.note = s.delivery.note ∧
    (judgeSweep number s).counters.intakeBadFrames = s.counters.intakeBadFrames ∧
    (judgeSweep number s).counters.deliveryBadFrames = s.counters.deliveryBadFrames ∧
    (judgeSweep number s).counters.strayReplies = s.counters.strayReplies ∧
    (judgeSweep number s).counters.lateReplies = s.counters.lateReplies ∧
    (judgeSweep number s).counters.mismatchedReplies = s.counters.mismatchedReplies ∧
    (judgeSweep number s).counters.replyTimeouts = s.counters.replyTimeouts ∧
    (judgeSweep number s).counters.missedSweeps = s.counters.missedSweeps ∧
    (judgeSweep number s).counters.ignoredStartEdges = s.counters.ignoredStartEdges ∧
    (judgeSweep number s).counters.unstoredSweeps = s.counters.unstoredSweeps ∧
    (judgeSweep number s).counters.historySpaceDrops = s.counters.historySpaceDrops ∧
    (judgeSweep number s).counters.passbackDrops = s.counters.passbackDrops ∧
    (judgeSweep number s).counters.forwardDrops = s.counters.forwardDrops ∧
    (judgeSweep number s).counters.droppedRequests = s.counters.droppedRequests ∧
    (judgeSweep number s).params = s.params ∧ (judgeSweep number s).manager = s.manager ∧
    (judgeSweep number s).intake = s.intake ∧ (judgeSweep number s).deliveryPort = s.deliveryPort ∧
    (judgeSweep number s).clock = s.clock ∧ (judgeSweep number s).lines = s.lines ∧
    (judgeSweep number s).choices = s.choices ∧ (judgeSweep number s).pending = s.pending := by
  and_intros <;> simp only [judgeSweep] <;> (repeat' split) <;> simp

@[simp] theorem sweepCompletion_keeps (r : SweepRecord) (s : State) :
    (sweepCompletion r s).sweeper.program = s.sweeper.program ∧
    (sweepCompletion r s).sweeper.fixedS = s.sweeper.fixedS ∧
    (sweepCompletion r s).sweeper.burstCount = s.sweeper.burstCount ∧
    (sweepCompletion r s).sweeper.sweepNumber = s.sweeper.sweepNumber ∧
    (sweepCompletion r s).sweeper.gapPending = s.sweeper.gapPending ∧
    (sweepCompletion r s).sweeper.startLevel = s.sweeper.startLevel ∧ (sweepCompletion r s).tracker = s.tracker ∧
    (sweepCompletion r s).trigger.conditions = s.trigger.conditions ∧
    (sweepCompletion r s).delivery.windowA = s.delivery.windowA ∧
    (sweepCompletion r s).delivery.windowB = s.delivery.windowB ∧
    (sweepCompletion r s).delivery.current = s.delivery.current ∧
    (sweepCompletion r s).delivery.position = s.delivery.position ∧
    (sweepCompletion r s).delivery.note = s.delivery.note ∧
    (sweepCompletion r s).counters.intakeBadFrames = s.counters.intakeBadFrames ∧
    (sweepCompletion r s).counters.deliveryBadFrames = s.counters.deliveryBadFrames ∧
    (sweepCompletion r s).counters.strayReplies = s.counters.strayReplies ∧
    (sweepCompletion r s).counters.lateReplies = s.counters.lateReplies ∧
    (sweepCompletion r s).counters.mismatchedReplies = s.counters.mismatchedReplies ∧
    (sweepCompletion r s).counters.replyTimeouts = s.counters.replyTimeouts ∧
    (sweepCompletion r s).counters.missedSweeps = s.counters.missedSweeps ∧
    (sweepCompletion r s).counters.ignoredStartEdges = s.counters.ignoredStartEdges ∧
    (sweepCompletion r s).counters.unstoredSweeps = s.counters.unstoredSweeps ∧
    (sweepCompletion r s).counters.historySpaceDrops = s.counters.historySpaceDrops ∧
    (sweepCompletion r s).counters.passbackDrops = s.counters.passbackDrops ∧
    (sweepCompletion r s).counters.forwardDrops = s.counters.forwardDrops ∧
    (sweepCompletion r s).counters.droppedRequests = s.counters.droppedRequests ∧
    (sweepCompletion r s).params = s.params ∧ (sweepCompletion r s).manager.node = s.manager.node ∧
    (sweepCompletion r s).manager.requests = s.manager.requests ∧
    (sweepCompletion r s).manager.resetHold = s.manager.resetHold ∧ (sweepCompletion r s).intake = s.intake ∧
    (sweepCompletion r s).deliveryPort = s.deliveryPort ∧ (sweepCompletion r s).clock = s.clock ∧
    (sweepCompletion r s).lines = s.lines ∧ (sweepCompletion r s).choices = s.choices ∧
    (sweepCompletion r s).pending = s.pending := by
  and_intros <;> simp only [sweepCompletion] <;> (repeat' split) <;> simp

@[simp] theorem checkCompletion_keeps (s : State) :
    (checkCompletion s).sweeper.program = s.sweeper.program ∧ (checkCompletion s).sweeper.fixedS = s.sweeper.fixedS ∧
    (checkCompletion s).sweeper.burstCount = s.sweeper.burstCount ∧
    (checkCompletion s).sweeper.sweepNumber = s.sweeper.sweepNumber ∧
    (checkCompletion s).sweeper.gapPending = s.sweeper.gapPending ∧
    (checkCompletion s).sweeper.startLevel = s.sweeper.startLevel ∧ (checkCompletion s).tracker = s.tracker ∧
    (checkCompletion s).trigger.conditions = s.trigger.conditions ∧
    (checkCompletion s).delivery.windowA = s.delivery.windowA ∧
    (checkCompletion s).delivery.windowB = s.delivery.windowB ∧
    (checkCompletion s).delivery.current = s.delivery.current ∧
    (checkCompletion s).delivery.position = s.delivery.position ∧
    (checkCompletion s).delivery.note = s.delivery.note ∧
    (checkCompletion s).counters.intakeBadFrames = s.counters.intakeBadFrames ∧
    (checkCompletion s).counters.deliveryBadFrames = s.counters.deliveryBadFrames ∧
    (checkCompletion s).counters.strayReplies = s.counters.strayReplies ∧
    (checkCompletion s).counters.lateReplies = s.counters.lateReplies ∧
    (checkCompletion s).counters.mismatchedReplies = s.counters.mismatchedReplies ∧
    (checkCompletion s).counters.replyTimeouts = s.counters.replyTimeouts ∧
    (checkCompletion s).counters.missedSweeps = s.counters.missedSweeps ∧
    (checkCompletion s).counters.ignoredStartEdges = s.counters.ignoredStartEdges ∧
    (checkCompletion s).counters.unstoredSweeps = s.counters.unstoredSweeps ∧
    (checkCompletion s).counters.historySpaceDrops = s.counters.historySpaceDrops ∧
    (checkCompletion s).counters.passbackDrops = s.counters.passbackDrops ∧
    (checkCompletion s).counters.forwardDrops = s.counters.forwardDrops ∧
    (checkCompletion s).counters.droppedRequests = s.counters.droppedRequests ∧
    (checkCompletion s).params = s.params ∧ (checkCompletion s).manager.node = s.manager.node ∧
    (checkCompletion s).manager.requests = s.manager.requests ∧
    (checkCompletion s).manager.resetHold = s.manager.resetHold ∧ (checkCompletion s).intake = s.intake ∧
    (checkCompletion s).deliveryPort = s.deliveryPort ∧ (checkCompletion s).clock = s.clock ∧
    (checkCompletion s).lines = s.lines ∧ (checkCompletion s).choices = s.choices ∧
    (checkCompletion s).pending = s.pending := by
  and_intros <;> simp only [checkCompletion] <;> (repeat' split) <;> simp

@[simp] theorem issueEntry_keeps (i t : Nat) (s : State) :
    (issueEntry i t s).sweeper = s.sweeper ∧ (issueEntry i t s).trigger = s.trigger ∧
    (issueEntry i t s).memory = s.memory ∧ (issueEntry i t s).capture = s.capture ∧
    (issueEntry i t s).delivery = s.delivery ∧ (issueEntry i t s).notices = s.notices ∧
    (issueEntry i t s).counters = s.counters ∧ (issueEntry i t s).params = s.params ∧
    (issueEntry i t s).manager = s.manager ∧ (issueEntry i t s).intake = s.intake ∧
    (issueEntry i t s).deliveryPort = s.deliveryPort ∧ (issueEntry i t s).clock = s.clock ∧
    (issueEntry i t s).lines = s.lines ∧ (issueEntry i t s).choices = s.choices ∧
    (issueEntry i t s).pending = s.pending := by
  and_intros <;> rfl

@[simp] theorem issueLoop_keeps (n : Nat) (s : State) :
    (issueLoop n s).sweeper = s.sweeper ∧ (issueLoop n s).trigger = s.trigger ∧ (issueLoop n s).memory = s.memory ∧
    (issueLoop n s).capture = s.capture ∧ (issueLoop n s).delivery = s.delivery ∧
    (issueLoop n s).notices = s.notices ∧ (issueLoop n s).counters = s.counters ∧ (issueLoop n s).params = s.params ∧
    (issueLoop n s).manager = s.manager ∧ (issueLoop n s).intake = s.intake ∧
    (issueLoop n s).deliveryPort = s.deliveryPort ∧ (issueLoop n s).clock = s.clock ∧
    (issueLoop n s).lines = s.lines ∧ (issueLoop n s).choices = s.choices ∧ (issueLoop n s).pending = s.pending := by
  induction n generalizing s with
  | zero => and_intros <;> rfl
  | succ n ih =>
    simp only [issueLoop]
    split
    · simp [ih]
    · and_intros <;> rfl

@[simp] theorem issueTest_keeps (s : State) :
    (issueTest s).sweeper = s.sweeper ∧ (issueTest s).trigger = s.trigger ∧ (issueTest s).memory = s.memory ∧
    (issueTest s).capture = s.capture ∧ (issueTest s).delivery = s.delivery ∧ (issueTest s).notices = s.notices ∧
    (issueTest s).counters = s.counters ∧ (issueTest s).params = s.params ∧ (issueTest s).manager = s.manager ∧
    (issueTest s).intake = s.intake ∧ (issueTest s).deliveryPort = s.deliveryPort ∧ (issueTest s).clock = s.clock ∧
    (issueTest s).lines = s.lines ∧ (issueTest s).choices = s.choices ∧ (issueTest s).pending = s.pending := by
  and_intros <;> simp only [issueTest] <;> simp

@[simp] theorem handSample_keeps (x : Sample) (s : State) :
    (handSample x s).sweeper = s.sweeper ∧ (handSample x s).tracker = s.tracker ∧
    (handSample x s).trigger.stage = s.trigger.stage ∧ (handSample x s).trigger.forced = s.trigger.forced ∧
    (handSample x s).trigger.trigout = s.trigger.trigout ∧ (handSample x s).trigger.pulse = s.trigger.pulse ∧
    (handSample x s).memory.free = s.memory.free ∧ (handSample x s).memory.history = s.memory.history ∧
    (handSample x s).memory.reservation = s.memory.reservation ∧ (handSample x s).capture = s.capture ∧
    (handSample x s).delivery = s.delivery ∧ (handSample x s).notices = s.notices ∧
    (handSample x s).counters = s.counters ∧ (handSample x s).params = s.params ∧
    (handSample x s).manager = s.manager ∧ (handSample x s).intake = s.intake ∧
    (handSample x s).deliveryPort = s.deliveryPort ∧ (handSample x s).clock = s.clock ∧
    (handSample x s).lines = s.lines ∧ (handSample x s).choices = s.choices ∧
    (handSample x s).pending = s.pending := by
  and_intros <;> simp only [handSample] <;> simp

@[simp] theorem removeEntry_keeps (e : InFlight) (s : State) :
    (removeEntry e s).sweeper = s.sweeper ∧ (removeEntry e s).tracker.tags = s.tracker.tags ∧
    (removeEntry e s).tracker.lastTag = s.tracker.lastTag ∧ (removeEntry e s).tracker.cursor = s.tracker.cursor ∧
    (removeEntry e s).tracker.spacing = s.tracker.spacing ∧ (removeEntry e s).tracker.converts = s.tracker.converts ∧
    (removeEntry e s).trigger = s.trigger ∧ (removeEntry e s).memory = s.memory ∧
    (removeEntry e s).capture = s.capture ∧ (removeEntry e s).delivery = s.delivery ∧
    (removeEntry e s).notices = s.notices ∧ (removeEntry e s).counters = s.counters ∧
    (removeEntry e s).params = s.params ∧ (removeEntry e s).manager = s.manager ∧
    (removeEntry e s).intake = s.intake ∧ (removeEntry e s).deliveryPort = s.deliveryPort ∧
    (removeEntry e s).clock = s.clock ∧ (removeEntry e s).lines = s.lines ∧ (removeEntry e s).choices = s.choices ∧
    (removeEntry e s).pending = s.pending := by
  and_intros <;> rfl

@[simp] theorem completeRequest_keeps (e : InFlight) (content : Content) (tagAfter : TagState) (s : State) :
    (completeRequest e content tagAfter s).sweeper.program = s.sweeper.program ∧
    (completeRequest e content tagAfter s).sweeper.fixedS = s.sweeper.fixedS ∧
    (completeRequest e content tagAfter s).sweeper.burstCount = s.sweeper.burstCount ∧
    (completeRequest e content tagAfter s).sweeper.sweepNumber = s.sweeper.sweepNumber ∧
    (completeRequest e content tagAfter s).sweeper.gapPending = s.sweeper.gapPending ∧
    (completeRequest e content tagAfter s).sweeper.startLevel = s.sweeper.startLevel ∧
    (completeRequest e content tagAfter s).delivery.windowA = s.delivery.windowA ∧
    (completeRequest e content tagAfter s).delivery.windowB = s.delivery.windowB ∧
    (completeRequest e content tagAfter s).delivery.current = s.delivery.current ∧
    (completeRequest e content tagAfter s).delivery.position = s.delivery.position ∧
    (completeRequest e content tagAfter s).delivery.note = s.delivery.note ∧
    (completeRequest e content tagAfter s).counters.intakeBadFrames = s.counters.intakeBadFrames ∧
    (completeRequest e content tagAfter s).counters.deliveryBadFrames = s.counters.deliveryBadFrames ∧
    (completeRequest e content tagAfter s).counters.strayReplies = s.counters.strayReplies ∧
    (completeRequest e content tagAfter s).counters.lateReplies = s.counters.lateReplies ∧
    (completeRequest e content tagAfter s).counters.mismatchedReplies = s.counters.mismatchedReplies ∧
    (completeRequest e content tagAfter s).counters.replyTimeouts = s.counters.replyTimeouts ∧
    (completeRequest e content tagAfter s).counters.missedSweeps = s.counters.missedSweeps ∧
    (completeRequest e content tagAfter s).counters.ignoredStartEdges = s.counters.ignoredStartEdges ∧
    (completeRequest e content tagAfter s).counters.unstoredSweeps = s.counters.unstoredSweeps ∧
    (completeRequest e content tagAfter s).counters.historySpaceDrops = s.counters.historySpaceDrops ∧
    (completeRequest e content tagAfter s).counters.passbackDrops = s.counters.passbackDrops ∧
    (completeRequest e content tagAfter s).counters.forwardDrops = s.counters.forwardDrops ∧
    (completeRequest e content tagAfter s).counters.droppedRequests = s.counters.droppedRequests ∧
    (completeRequest e content tagAfter s).params = s.params ∧
    (completeRequest e content tagAfter s).manager.node = s.manager.node ∧
    (completeRequest e content tagAfter s).manager.requests = s.manager.requests ∧
    (completeRequest e content tagAfter s).manager.resetHold = s.manager.resetHold ∧
    (completeRequest e content tagAfter s).intake = s.intake ∧
    (completeRequest e content tagAfter s).deliveryPort = s.deliveryPort ∧
    (completeRequest e content tagAfter s).clock = s.clock ∧ (completeRequest e content tagAfter s).lines = s.lines ∧
    (completeRequest e content tagAfter s).choices = s.choices ∧
    (completeRequest e content tagAfter s).pending = s.pending := by
  and_intros <;> simp only [completeRequest] <;> simp

@[simp] theorem missingLink_keeps (i : Nat) (s : State) :
    (missingLink i s).sweeper = s.sweeper ∧ (missingLink i s).tracker.tags = s.tracker.tags ∧
    (missingLink i s).tracker.inFlight = s.tracker.inFlight ∧ (missingLink i s).tracker.lastTag = s.tracker.lastTag ∧
    (missingLink i s).tracker.spacing = s.tracker.spacing ∧ (missingLink i s).tracker.converts = s.tracker.converts ∧
    (missingLink i s).trigger.stage = s.trigger.stage ∧ (missingLink i s).trigger.forced = s.trigger.forced ∧
    (missingLink i s).trigger.trigout = s.trigger.trigout ∧ (missingLink i s).trigger.pulse = s.trigger.pulse ∧
    (missingLink i s).memory.free = s.memory.free ∧ (missingLink i s).memory.history = s.memory.history ∧
    (missingLink i s).memory.reservation = s.memory.reservation ∧ (missingLink i s).capture = s.capture ∧
    (missingLink i s).delivery = s.delivery ∧ (missingLink i s).notices = s.notices ∧
    (missingLink i s).counters = s.counters ∧ (missingLink i s).params = s.params ∧
    (missingLink i s).manager = s.manager ∧ (missingLink i s).intake = s.intake ∧
    (missingLink i s).deliveryPort = s.deliveryPort ∧ (missingLink i s).clock = s.clock ∧
    (missingLink i s).lines = s.lines ∧ (missingLink i s).choices = s.choices ∧
    (missingLink i s).pending = s.pending := by
  and_intros <;> simp only [missingLink] <;> simp

@[simp] theorem linkFill_keeps (n : Nat) (s : State) :
    (linkFill n s).sweeper = s.sweeper ∧ (linkFill n s).tracker.tags = s.tracker.tags ∧
    (linkFill n s).tracker.inFlight = s.tracker.inFlight ∧ (linkFill n s).tracker.lastTag = s.tracker.lastTag ∧
    (linkFill n s).tracker.spacing = s.tracker.spacing ∧ (linkFill n s).tracker.converts = s.tracker.converts ∧
    (linkFill n s).trigger.stage = s.trigger.stage ∧ (linkFill n s).trigger.forced = s.trigger.forced ∧
    (linkFill n s).trigger.trigout = s.trigger.trigout ∧ (linkFill n s).trigger.pulse = s.trigger.pulse ∧
    (linkFill n s).memory.free = s.memory.free ∧ (linkFill n s).memory.history = s.memory.history ∧
    (linkFill n s).memory.reservation = s.memory.reservation ∧ (linkFill n s).capture = s.capture ∧
    (linkFill n s).delivery = s.delivery ∧ (linkFill n s).notices = s.notices ∧ (linkFill n s).counters = s.counters ∧
    (linkFill n s).params = s.params ∧ (linkFill n s).manager = s.manager ∧ (linkFill n s).intake = s.intake ∧
    (linkFill n s).deliveryPort = s.deliveryPort ∧ (linkFill n s).clock = s.clock ∧ (linkFill n s).lines = s.lines ∧
    (linkFill n s).choices = s.choices ∧ (linkFill n s).pending = s.pending := by
  induction n generalizing s with
  | zero => and_intros <;> rfl
  | succ n ih =>
    simp only [linkFill]
    split
    · simp [ih]
    · and_intros <;> rfl

@[simp] theorem fillRest_keeps (s : State) :
    (fillRest s).sweeper.program = s.sweeper.program ∧ (fillRest s).sweeper.fixedS = s.sweeper.fixedS ∧
    (fillRest s).sweeper.burstCount = s.sweeper.burstCount ∧
    (fillRest s).sweeper.sweepNumber = s.sweeper.sweepNumber ∧
    (fillRest s).sweeper.gapPending = s.sweeper.gapPending ∧ (fillRest s).sweeper.startLevel = s.sweeper.startLevel ∧
    (fillRest s).tracker.tags = s.tracker.tags ∧ (fillRest s).tracker.inFlight = s.tracker.inFlight ∧
    (fillRest s).tracker.lastTag = s.tracker.lastTag ∧ (fillRest s).tracker.spacing = s.tracker.spacing ∧
    (fillRest s).tracker.converts = s.tracker.converts ∧ (fillRest s).delivery.windowA = s.delivery.windowA ∧
    (fillRest s).delivery.windowB = s.delivery.windowB ∧ (fillRest s).delivery.current = s.delivery.current ∧
    (fillRest s).delivery.position = s.delivery.position ∧ (fillRest s).delivery.note = s.delivery.note ∧
    (fillRest s).counters.intakeBadFrames = s.counters.intakeBadFrames ∧
    (fillRest s).counters.deliveryBadFrames = s.counters.deliveryBadFrames ∧
    (fillRest s).counters.strayReplies = s.counters.strayReplies ∧
    (fillRest s).counters.lateReplies = s.counters.lateReplies ∧
    (fillRest s).counters.mismatchedReplies = s.counters.mismatchedReplies ∧
    (fillRest s).counters.replyTimeouts = s.counters.replyTimeouts ∧
    (fillRest s).counters.missedSweeps = s.counters.missedSweeps ∧
    (fillRest s).counters.ignoredStartEdges = s.counters.ignoredStartEdges ∧
    (fillRest s).counters.unstoredSweeps = s.counters.unstoredSweeps ∧
    (fillRest s).counters.historySpaceDrops = s.counters.historySpaceDrops ∧
    (fillRest s).counters.passbackDrops = s.counters.passbackDrops ∧
    (fillRest s).counters.forwardDrops = s.counters.forwardDrops ∧
    (fillRest s).counters.droppedRequests = s.counters.droppedRequests ∧ (fillRest s).params = s.params ∧
    (fillRest s).manager.node = s.manager.node ∧ (fillRest s).manager.requests = s.manager.requests ∧
    (fillRest s).manager.resetHold = s.manager.resetHold ∧ (fillRest s).intake = s.intake ∧
    (fillRest s).deliveryPort = s.deliveryPort ∧ (fillRest s).clock = s.clock ∧ (fillRest s).lines = s.lines ∧
    (fillRest s).choices = s.choices ∧ (fillRest s).pending = s.pending := by
  and_intros <;> simp only [fillRest] <;> simp

@[simp] theorem withdrawEntry_keeps (s : State) (f : ConvertFrame) :
    (withdrawEntry s f).sweeper = s.sweeper ∧ (withdrawEntry s f).tracker.lastTag = s.tracker.lastTag ∧
    (withdrawEntry s f).tracker.cursor = s.tracker.cursor ∧ (withdrawEntry s f).tracker.spacing = s.tracker.spacing ∧
    (withdrawEntry s f).tracker.converts = s.tracker.converts ∧ (withdrawEntry s f).trigger.stage = s.trigger.stage ∧
    (withdrawEntry s f).trigger.forced = s.trigger.forced ∧ (withdrawEntry s f).trigger.trigout = s.trigger.trigout ∧
    (withdrawEntry s f).trigger.pulse = s.trigger.pulse ∧ (withdrawEntry s f).memory.free = s.memory.free ∧
    (withdrawEntry s f).memory.history = s.memory.history ∧
    (withdrawEntry s f).memory.reservation = s.memory.reservation ∧ (withdrawEntry s f).capture = s.capture ∧
    (withdrawEntry s f).delivery = s.delivery ∧ (withdrawEntry s f).notices = s.notices ∧
    (withdrawEntry s f).counters = s.counters ∧ (withdrawEntry s f).params = s.params ∧
    (withdrawEntry s f).manager = s.manager ∧ (withdrawEntry s f).intake = s.intake ∧
    (withdrawEntry s f).deliveryPort = s.deliveryPort ∧ (withdrawEntry s f).clock = s.clock ∧
    (withdrawEntry s f).lines = s.lines ∧ (withdrawEntry s f).choices = s.choices ∧
    (withdrawEntry s f).pending = s.pending := by
  and_intros <;> simp only [withdrawEntry] <;> (repeat' split) <;> simp

/-- What every withdrawal keeps, the withdrawal of them all keeps. -/
theorem foldl_withdraw {α : Type} (p : State → α) (h : ∀ s f, p (withdrawEntry s f) = p s) (l : List ConvertFrame)
    (s : State) : p (l.foldl withdrawEntry s) = p s := by
  induction l generalizing s with
  | nil => rfl
  | cons a l ih => simp [ih, h]

@[simp] theorem withdrawConverts_keeps (s : State) :
    (withdrawConverts s).sweeper = s.sweeper ∧ (withdrawConverts s).tracker.lastTag = s.tracker.lastTag ∧
    (withdrawConverts s).tracker.cursor = s.tracker.cursor ∧
    (withdrawConverts s).tracker.spacing = s.tracker.spacing ∧ (withdrawConverts s).trigger.stage = s.trigger.stage ∧
    (withdrawConverts s).trigger.forced = s.trigger.forced ∧
    (withdrawConverts s).trigger.trigout = s.trigger.trigout ∧ (withdrawConverts s).trigger.pulse = s.trigger.pulse ∧
    (withdrawConverts s).memory.free = s.memory.free ∧ (withdrawConverts s).memory.history = s.memory.history ∧
    (withdrawConverts s).memory.reservation = s.memory.reservation ∧ (withdrawConverts s).capture = s.capture ∧
    (withdrawConverts s).delivery = s.delivery ∧ (withdrawConverts s).notices = s.notices ∧
    (withdrawConverts s).counters = s.counters ∧ (withdrawConverts s).params = s.params ∧
    (withdrawConverts s).manager = s.manager ∧ (withdrawConverts s).intake = s.intake ∧
    (withdrawConverts s).deliveryPort = s.deliveryPort ∧ (withdrawConverts s).clock = s.clock ∧
    (withdrawConverts s).lines = s.lines ∧ (withdrawConverts s).choices = s.choices ∧
    (withdrawConverts s).pending = s.pending := by
  and_intros
  · exact foldl_withdraw (fun s => s.sweeper) (fun s f => by simp) _ _
  · exact foldl_withdraw (fun s => s.tracker.lastTag) (fun s f => by simp) _ _
  · exact foldl_withdraw (fun s => s.tracker.cursor) (fun s f => by simp) _ _
  · exact foldl_withdraw (fun s => s.tracker.spacing) (fun s f => by simp) _ _
  · exact foldl_withdraw (fun s => s.trigger.stage) (fun s f => by simp) _ _
  · exact foldl_withdraw (fun s => s.trigger.forced) (fun s f => by simp) _ _
  · exact foldl_withdraw (fun s => s.trigger.trigout) (fun s f => by simp) _ _
  · exact foldl_withdraw (fun s => s.trigger.pulse) (fun s f => by simp) _ _
  · exact foldl_withdraw (fun s => s.memory.free) (fun s f => by simp) _ _
  · exact foldl_withdraw (fun s => s.memory.history) (fun s f => by simp) _ _
  · exact foldl_withdraw (fun s => s.memory.reservation) (fun s f => by simp) _ _
  · exact foldl_withdraw (fun s => s.capture) (fun s f => by simp) _ _
  · exact foldl_withdraw (fun s => s.delivery) (fun s f => by simp) _ _
  · exact foldl_withdraw (fun s => s.notices) (fun s f => by simp) _ _
  · exact foldl_withdraw (fun s => s.counters) (fun s f => by simp) _ _
  · exact foldl_withdraw (fun s => s.params) (fun s f => by simp) _ _
  · exact foldl_withdraw (fun s => s.manager) (fun s f => by simp) _ _
  · exact foldl_withdraw (fun s => s.intake) (fun s f => by simp) _ _
  · exact foldl_withdraw (fun s => s.deliveryPort) (fun s f => by simp) _ _
  · exact foldl_withdraw (fun s => s.clock) (fun s f => by simp) _ _
  · exact foldl_withdraw (fun s => s.lines) (fun s f => by simp) _ _
  · exact foldl_withdraw (fun s => s.choices) (fun s f => by simp) _ _
  · exact foldl_withdraw (fun s => s.pending) (fun s f => by simp) _ _

@[simp] theorem beginIssuing_keeps (s : State) :
    (beginIssuing s).sweeper.program = s.sweeper.program ∧ (beginIssuing s).sweeper.fixedS = s.sweeper.fixedS ∧
    (beginIssuing s).sweeper.burstCount = s.sweeper.burstCount ∧
    (beginIssuing s).sweeper.sweepNumber = s.sweeper.sweepNumber ∧
    (beginIssuing s).sweeper.gapPending = s.sweeper.gapPending ∧
    (beginIssuing s).sweeper.startLevel = s.sweeper.startLevel ∧
    (beginIssuing s).delivery.windowA = s.delivery.windowA ∧ (beginIssuing s).delivery.windowB = s.delivery.windowB ∧
    (beginIssuing s).delivery.current = s.delivery.current ∧
    (beginIssuing s).delivery.position = s.delivery.position ∧ (beginIssuing s).delivery.note = s.delivery.note ∧
    (beginIssuing s).counters.intakeBadFrames = s.counters.intakeBadFrames ∧
    (beginIssuing s).counters.deliveryBadFrames = s.counters.deliveryBadFrames ∧
    (beginIssuing s).counters.strayReplies = s.counters.strayReplies ∧
    (beginIssuing s).counters.lateReplies = s.counters.lateReplies ∧
    (beginIssuing s).counters.mismatchedReplies = s.counters.mismatchedReplies ∧
    (beginIssuing s).counters.replyTimeouts = s.counters.replyTimeouts ∧
    (beginIssuing s).counters.missedSweeps = s.counters.missedSweeps ∧
    (beginIssuing s).counters.ignoredStartEdges = s.counters.ignoredStartEdges ∧
    (beginIssuing s).counters.unstoredSweeps = s.counters.unstoredSweeps ∧
    (beginIssuing s).counters.historySpaceDrops = s.counters.historySpaceDrops ∧
    (beginIssuing s).counters.passbackDrops = s.counters.passbackDrops ∧
    (beginIssuing s).counters.forwardDrops = s.counters.forwardDrops ∧
    (beginIssuing s).counters.droppedRequests = s.counters.droppedRequests ∧ (beginIssuing s).params = s.params ∧
    (beginIssuing s).manager.node = s.manager.node ∧ (beginIssuing s).manager.requests = s.manager.requests ∧
    (beginIssuing s).manager.resetHold = s.manager.resetHold ∧ (beginIssuing s).intake = s.intake ∧
    (beginIssuing s).deliveryPort = s.deliveryPort ∧ (beginIssuing s).clock = s.clock ∧
    (beginIssuing s).lines = s.lines ∧ (beginIssuing s).choices = s.choices ∧
    (beginIssuing s).pending = s.pending := by
  and_intros <;> simp only [beginIssuing] <;> (repeat' split) <;> simp

@[simp] theorem applyLimit_keeps (s : State) :
    (applyLimit s).sweeper.program = s.sweeper.program ∧ (applyLimit s).sweeper.fixedS = s.sweeper.fixedS ∧
    (applyLimit s).sweeper.burstCount = s.sweeper.burstCount ∧
    (applyLimit s).sweeper.sweepNumber = s.sweeper.sweepNumber ∧ (applyLimit s).sweeper.sweep = s.sweeper.sweep ∧
    (applyLimit s).sweeper.gapPending = s.sweeper.gapPending ∧
    (applyLimit s).sweeper.startLevel = s.sweeper.startLevel ∧ (applyLimit s).tracker = s.tracker ∧
    (applyLimit s).trigger = s.trigger ∧ (applyLimit s).memory = s.memory ∧ (applyLimit s).capture = s.capture ∧
    (applyLimit s).delivery = s.delivery ∧ (applyLimit s).notices = s.notices ∧ (applyLimit s).counters = s.counters ∧
    (applyLimit s).params = s.params ∧ (applyLimit s).manager = s.manager ∧ (applyLimit s).intake = s.intake ∧
    (applyLimit s).deliveryPort = s.deliveryPort ∧ (applyLimit s).clock = s.clock ∧ (applyLimit s).lines = s.lines ∧
    (applyLimit s).choices = s.choices ∧ (applyLimit s).pending = s.pending := by
  and_intros <;> simp only [applyLimit] <;> (repeat' split) <;> simp

@[simp] theorem markStarted_keeps (s : State) :
    (markStarted s).sweeper.program = s.sweeper.program ∧ (markStarted s).sweeper.fixedS = s.sweeper.fixedS ∧
    (markStarted s).sweeper.run = s.sweeper.run ∧ (markStarted s).sweeper.pacer = s.sweeper.pacer ∧
    (markStarted s).sweeper.burstCount = s.sweeper.burstCount ∧
    (markStarted s).sweeper.endCause = s.sweeper.endCause ∧
    (markStarted s).sweeper.startLevel = s.sweeper.startLevel ∧ (markStarted s).tracker = s.tracker ∧
    (markStarted s).trigger = s.trigger ∧ (markStarted s).memory = s.memory ∧ (markStarted s).capture = s.capture ∧
    (markStarted s).delivery = s.delivery ∧ (markStarted s).notices = s.notices ∧
    (markStarted s).counters = s.counters ∧ (markStarted s).params = s.params ∧ (markStarted s).manager = s.manager ∧
    (markStarted s).intake = s.intake ∧ (markStarted s).deliveryPort = s.deliveryPort ∧
    (markStarted s).clock = s.clock ∧ (markStarted s).lines = s.lines ∧ (markStarted s).choices = s.choices ∧
    (markStarted s).pending = s.pending := by
  and_intros <;> rfl

@[simp] theorem sweepStart_keeps (s : State) :
    (sweepStart s).sweeper.program = s.sweeper.program ∧ (sweepStart s).sweeper.fixedS = s.sweeper.fixedS ∧
    (sweepStart s).sweeper.burstCount = s.sweeper.burstCount ∧
    (sweepStart s).sweeper.startLevel = s.sweeper.startLevel ∧ (sweepStart s).delivery.windowA = s.delivery.windowA ∧
    (sweepStart s).delivery.windowB = s.delivery.windowB ∧ (sweepStart s).delivery.current = s.delivery.current ∧
    (sweepStart s).delivery.position = s.delivery.position ∧ (sweepStart s).delivery.note = s.delivery.note ∧
    (sweepStart s).counters.intakeBadFrames = s.counters.intakeBadFrames ∧
    (sweepStart s).counters.deliveryBadFrames = s.counters.deliveryBadFrames ∧
    (sweepStart s).counters.strayReplies = s.counters.strayReplies ∧
    (sweepStart s).counters.lateReplies = s.counters.lateReplies ∧
    (sweepStart s).counters.mismatchedReplies = s.counters.mismatchedReplies ∧
    (sweepStart s).counters.replyTimeouts = s.counters.replyTimeouts ∧
    (sweepStart s).counters.missedSweeps = s.counters.missedSweeps ∧
    (sweepStart s).counters.ignoredStartEdges = s.counters.ignoredStartEdges ∧
    (sweepStart s).counters.passbackDrops = s.counters.passbackDrops ∧
    (sweepStart s).counters.forwardDrops = s.counters.forwardDrops ∧
    (sweepStart s).counters.droppedRequests = s.counters.droppedRequests ∧ (sweepStart s).params = s.params ∧
    (sweepStart s).manager.node = s.manager.node ∧ (sweepStart s).manager.requests = s.manager.requests ∧
    (sweepStart s).manager.resetHold = s.manager.resetHold ∧ (sweepStart s).intake = s.intake ∧
    (sweepStart s).deliveryPort = s.deliveryPort ∧ (sweepStart s).clock = s.clock ∧ (sweepStart s).lines = s.lines ∧
    (sweepStart s).choices = s.choices ∧ (sweepStart s).pending = s.pending := by
  and_intros <;> simp only [sweepStart] <;> simp

end Sys2Proof.Machine
end

