-- ==== Sys2Proof/Laws/Ports.lean ====
section
/-! SUPPORT. Frames: what the operations of the Delivery Unit, the arbiters and the links leave as it was; each lemma is one conjunction of projections, for simp. -/

namespace Sys2Proof.Machine

/-- What replacing a window leaves as it was (R114). -/
@[simp] theorem setWindow_keeps (d : DeliveryUnit) (w : WindowId) (x : Window) :
    (d.setWindow w x).queue = d.queue ∧ (d.setWindow w x).current = d.current ∧
      (d.setWindow w x).position = d.position ∧ (d.setWindow w x).note = d.note := by
  cases w <;> and_intros <;> rfl

/-- A replaced window reads as it was replaced. -/
@[simp] theorem window_setWindow (d : DeliveryUnit) (w : WindowId) (x : Window) : (d.setWindow w x).window w = x := by
  cases w <;> rfl

/-- The other window reads as before. -/
@[simp] theorem window_setWindow_other (d : DeliveryUnit) (w : WindowId) (x : Window) :
    (d.setWindow w x).window w.other = d.window w.other := by
  cases w <;> rfl

/-- What replacing a window in the machine leaves as it was. -/
@[simp] theorem putWindow_delivery (w : WindowId) (x : Window) (s : State) :
    (putWindow w x s).delivery = s.delivery.setWindow w x := rfl

@[simp] theorem putWindow_keeps (w : WindowId) (x : Window) (s : State) :
    (putWindow w x s).sweeper = s.sweeper ∧ (putWindow w x s).tracker = s.tracker ∧
    (putWindow w x s).trigger = s.trigger ∧ (putWindow w x s).memory = s.memory ∧
    (putWindow w x s).capture = s.capture ∧ (putWindow w x s).delivery.queue = s.delivery.queue ∧
    (putWindow w x s).delivery.current = s.delivery.current ∧
    (putWindow w x s).delivery.position = s.delivery.position ∧ (putWindow w x s).delivery.note = s.delivery.note ∧
    (putWindow w x s).notices = s.notices ∧ (putWindow w x s).counters = s.counters ∧
    (putWindow w x s).params = s.params ∧ (putWindow w x s).manager = s.manager ∧
    (putWindow w x s).intake = s.intake ∧ (putWindow w x s).deliveryPort = s.deliveryPort ∧
    (putWindow w x s).clock = s.clock ∧ (putWindow w x s).lines = s.lines ∧ (putWindow w x s).choices = s.choices ∧
    (putWindow w x s).pending = s.pending := by
  and_intros <;> simp only [putWindow] <;> simp

@[simp] theorem finishWindow_keeps (w : WindowId) (early : Bool) (s : State) :
    (finishWindow w early s).sweeper = s.sweeper ∧ (finishWindow w early s).tracker = s.tracker ∧
    (finishWindow w early s).trigger = s.trigger ∧ (finishWindow w early s).memory = s.memory ∧
    (finishWindow w early s).capture = s.capture ∧ (finishWindow w early s).delivery.queue = s.delivery.queue ∧
    (finishWindow w early s).delivery.current = s.delivery.current ∧
    (finishWindow w early s).delivery.position = s.delivery.position ∧
    (finishWindow w early s).delivery.note = s.delivery.note ∧
    (finishWindow w early s).counters.intakeBadFrames = s.counters.intakeBadFrames ∧
    (finishWindow w early s).counters.deliveryBadFrames = s.counters.deliveryBadFrames ∧
    (finishWindow w early s).counters.strayReplies = s.counters.strayReplies ∧
    (finishWindow w early s).counters.lateReplies = s.counters.lateReplies ∧
    (finishWindow w early s).counters.mismatchedReplies = s.counters.mismatchedReplies ∧
    (finishWindow w early s).counters.replyTimeouts = s.counters.replyTimeouts ∧
    (finishWindow w early s).counters.missedSweeps = s.counters.missedSweeps ∧
    (finishWindow w early s).counters.ignoredStartEdges = s.counters.ignoredStartEdges ∧
    (finishWindow w early s).counters.unstoredSweeps = s.counters.unstoredSweeps ∧
    (finishWindow w early s).counters.historySpaceDrops = s.counters.historySpaceDrops ∧
    (finishWindow w early s).counters.passbackDrops = s.counters.passbackDrops ∧
    (finishWindow w early s).counters.forwardDrops = s.counters.forwardDrops ∧
    (finishWindow w early s).counters.droppedRequests = s.counters.droppedRequests ∧
    (finishWindow w early s).params = s.params ∧ (finishWindow w early s).manager = s.manager ∧
    (finishWindow w early s).intake = s.intake ∧ (finishWindow w early s).deliveryPort = s.deliveryPort ∧
    (finishWindow w early s).clock = s.clock ∧ (finishWindow w early s).lines = s.lines ∧
    (finishWindow w early s).choices = s.choices ∧ (finishWindow w early s).pending = s.pending := by
  and_intros <;> simp only [finishWindow] <;> simp

@[simp] theorem completeWindow_keeps (w : WindowId) (early : Bool) (s : State) :
    (completeWindow w early s).sweeper = s.sweeper ∧ (completeWindow w early s).tracker = s.tracker ∧
    (completeWindow w early s).trigger = s.trigger ∧ (completeWindow w early s).memory = s.memory ∧
    (completeWindow w early s).capture = s.capture ∧ (completeWindow w early s).delivery.queue = s.delivery.queue ∧
    (completeWindow w early s).delivery.position = s.delivery.position ∧
    (completeWindow w early s).delivery.note = s.delivery.note ∧
    (completeWindow w early s).counters.intakeBadFrames = s.counters.intakeBadFrames ∧
    (completeWindow w early s).counters.deliveryBadFrames = s.counters.deliveryBadFrames ∧
    (completeWindow w early s).counters.strayReplies = s.counters.strayReplies ∧
    (completeWindow w early s).counters.lateReplies = s.counters.lateReplies ∧
    (completeWindow w early s).counters.mismatchedReplies = s.counters.mismatchedReplies ∧
    (completeWindow w early s).counters.replyTimeouts = s.counters.replyTimeouts ∧
    (completeWindow w early s).counters.missedSweeps = s.counters.missedSweeps ∧
    (completeWindow w early s).counters.ignoredStartEdges = s.counters.ignoredStartEdges ∧
    (completeWindow w early s).counters.unstoredSweeps = s.counters.unstoredSweeps ∧
    (completeWindow w early s).counters.historySpaceDrops = s.counters.historySpaceDrops ∧
    (completeWindow w early s).counters.passbackDrops = s.counters.passbackDrops ∧
    (completeWindow w early s).counters.forwardDrops = s.counters.forwardDrops ∧
    (completeWindow w early s).counters.droppedRequests = s.counters.droppedRequests ∧
    (completeWindow w early s).params = s.params ∧ (completeWindow w early s).manager = s.manager ∧
    (completeWindow w early s).intake = s.intake ∧
    (completeWindow w early s).deliveryPort.link = s.deliveryPort.link ∧
    (completeWindow w early s).deliveryPort.lane = s.deliveryPort.lane ∧
    (completeWindow w early s).deliveryPort.cycles = s.deliveryPort.cycles ∧
    (completeWindow w early s).deliveryPort.passback = s.deliveryPort.passback ∧
    (completeWindow w early s).clock = s.clock ∧ (completeWindow w early s).lines = s.lines ∧
    (completeWindow w early s).choices = s.choices ∧ (completeWindow w early s).pending = s.pending := by
  and_intros <;> simp only [completeWindow] <;> simp

@[simp] theorem completionTests_keeps (w : WindowId) (last : Bool) (s : State) :
    (completionTests w last s).sweeper = s.sweeper ∧ (completionTests w last s).tracker = s.tracker ∧
    (completionTests w last s).trigger = s.trigger ∧ (completionTests w last s).memory = s.memory ∧
    (completionTests w last s).capture = s.capture ∧ (completionTests w last s).delivery.queue = s.delivery.queue ∧
    (completionTests w last s).delivery.position = s.delivery.position ∧
    (completionTests w last s).delivery.note = s.delivery.note ∧
    (completionTests w last s).counters.intakeBadFrames = s.counters.intakeBadFrames ∧
    (completionTests w last s).counters.deliveryBadFrames = s.counters.deliveryBadFrames ∧
    (completionTests w last s).counters.strayReplies = s.counters.strayReplies ∧
    (completionTests w last s).counters.lateReplies = s.counters.lateReplies ∧
    (completionTests w last s).counters.mismatchedReplies = s.counters.mismatchedReplies ∧
    (completionTests w last s).counters.replyTimeouts = s.counters.replyTimeouts ∧
    (completionTests w last s).counters.missedSweeps = s.counters.missedSweeps ∧
    (completionTests w last s).counters.ignoredStartEdges = s.counters.ignoredStartEdges ∧
    (completionTests w last s).counters.unstoredSweeps = s.counters.unstoredSweeps ∧
    (completionTests w last s).counters.historySpaceDrops = s.counters.historySpaceDrops ∧
    (completionTests w last s).counters.passbackDrops = s.counters.passbackDrops ∧
    (completionTests w last s).counters.forwardDrops = s.counters.forwardDrops ∧
    (completionTests w last s).counters.droppedRequests = s.counters.droppedRequests ∧
    (completionTests w last s).params = s.params ∧ (completionTests w last s).manager = s.manager ∧
    (completionTests w last s).intake = s.intake ∧
    (completionTests w last s).deliveryPort.link = s.deliveryPort.link ∧
    (completionTests w last s).deliveryPort.lane = s.deliveryPort.lane ∧
    (completionTests w last s).deliveryPort.cycles = s.deliveryPort.cycles ∧
    (completionTests w last s).deliveryPort.passback = s.deliveryPort.passback ∧
    (completionTests w last s).clock = s.clock ∧ (completionTests w last s).lines = s.lines ∧
    (completionTests w last s).choices = s.choices ∧ (completionTests w last s).pending = s.pending := by
  and_intros <;> simp only [completionTests] <;> (repeat' split) <;> simp

@[simp] theorem advanceHead_keeps (f : RecordFrame) (s : State) :
    (advanceHead f s).sweeper = s.sweeper ∧ (advanceHead f s).tracker = s.tracker ∧
    (advanceHead f s).trigger = s.trigger ∧ (advanceHead f s).memory = s.memory ∧
    (advanceHead f s).capture = s.capture ∧ (advanceHead f s).delivery.windowA = s.delivery.windowA ∧
    (advanceHead f s).delivery.windowB = s.delivery.windowB ∧
    (advanceHead f s).delivery.current = s.delivery.current ∧ (advanceHead f s).notices = s.notices ∧
    (advanceHead f s).counters = s.counters ∧ (advanceHead f s).params = s.params ∧
    (advanceHead f s).manager = s.manager ∧ (advanceHead f s).intake = s.intake ∧
    (advanceHead f s).deliveryPort = s.deliveryPort ∧ (advanceHead f s).clock = s.clock ∧
    (advanceHead f s).lines = s.lines ∧ (advanceHead f s).choices = s.choices ∧
    (advanceHead f s).pending = s.pending := by
  and_intros <;> simp only [advanceHead] <;> (repeat' split) <;> simp

@[simp] theorem payloadFrameEnded_keeps (f : RecordFrame) (s : State) :
    (payloadFrameEnded f s).sweeper = s.sweeper ∧ (payloadFrameEnded f s).tracker = s.tracker ∧
    (payloadFrameEnded f s).trigger = s.trigger ∧ (payloadFrameEnded f s).memory.history = s.memory.history ∧
    (payloadFrameEnded f s).memory.current = s.memory.current ∧
    (payloadFrameEnded f s).memory.reservation = s.memory.reservation ∧ (payloadFrameEnded f s).capture = s.capture ∧
    (payloadFrameEnded f s).counters.intakeBadFrames = s.counters.intakeBadFrames ∧
    (payloadFrameEnded f s).counters.deliveryBadFrames = s.counters.deliveryBadFrames ∧
    (payloadFrameEnded f s).counters.strayReplies = s.counters.strayReplies ∧
    (payloadFrameEnded f s).counters.lateReplies = s.counters.lateReplies ∧
    (payloadFrameEnded f s).counters.mismatchedReplies = s.counters.mismatchedReplies ∧
    (payloadFrameEnded f s).counters.replyTimeouts = s.counters.replyTimeouts ∧
    (payloadFrameEnded f s).counters.missedSweeps = s.counters.missedSweeps ∧
    (payloadFrameEnded f s).counters.ignoredStartEdges = s.counters.ignoredStartEdges ∧
    (payloadFrameEnded f s).counters.unstoredSweeps = s.counters.unstoredSweeps ∧
    (payloadFrameEnded f s).counters.historySpaceDrops = s.counters.historySpaceDrops ∧
    (payloadFrameEnded f s).counters.passbackDrops = s.counters.passbackDrops ∧
    (payloadFrameEnded f s).counters.forwardDrops = s.counters.forwardDrops ∧
    (payloadFrameEnded f s).counters.droppedRequests = s.counters.droppedRequests ∧
    (payloadFrameEnded f s).params = s.params ∧ (payloadFrameEnded f s).manager = s.manager ∧
    (payloadFrameEnded f s).intake = s.intake ∧ (payloadFrameEnded f s).deliveryPort.link = s.deliveryPort.link ∧
    (payloadFrameEnded f s).deliveryPort.lane = s.deliveryPort.lane ∧
    (payloadFrameEnded f s).deliveryPort.cycles = s.deliveryPort.cycles ∧
    (payloadFrameEnded f s).deliveryPort.passback = s.deliveryPort.passback ∧
    (payloadFrameEnded f s).clock = s.clock ∧ (payloadFrameEnded f s).lines = s.lines ∧
    (payloadFrameEnded f s).choices = s.choices ∧ (payloadFrameEnded f s).pending = s.pending := by
  and_intros <;> simp only [payloadFrameEnded] <;> simp

@[simp] theorem abandonedFrameEnded_keeps (f : RecordFrame) (s : State) :
    (abandonedFrameEnded f s).sweeper = s.sweeper ∧ (abandonedFrameEnded f s).tracker = s.tracker ∧
    (abandonedFrameEnded f s).trigger = s.trigger ∧ (abandonedFrameEnded f s).memory = s.memory ∧
    (abandonedFrameEnded f s).capture = s.capture ∧ (abandonedFrameEnded f s).delivery.queue = s.delivery.queue ∧
    (abandonedFrameEnded f s).delivery.position = s.delivery.position ∧
    (abandonedFrameEnded f s).counters.intakeBadFrames = s.counters.intakeBadFrames ∧
    (abandonedFrameEnded f s).counters.deliveryBadFrames = s.counters.deliveryBadFrames ∧
    (abandonedFrameEnded f s).counters.strayReplies = s.counters.strayReplies ∧
    (abandonedFrameEnded f s).counters.lateReplies = s.counters.lateReplies ∧
    (abandonedFrameEnded f s).counters.mismatchedReplies = s.counters.mismatchedReplies ∧
    (abandonedFrameEnded f s).counters.replyTimeouts = s.counters.replyTimeouts ∧
    (abandonedFrameEnded f s).counters.missedSweeps = s.counters.missedSweeps ∧
    (abandonedFrameEnded f s).counters.ignoredStartEdges = s.counters.ignoredStartEdges ∧
    (abandonedFrameEnded f s).counters.unstoredSweeps = s.counters.unstoredSweeps ∧
    (abandonedFrameEnded f s).counters.historySpaceDrops = s.counters.historySpaceDrops ∧
    (abandonedFrameEnded f s).counters.passbackDrops = s.counters.passbackDrops ∧
    (abandonedFrameEnded f s).counters.forwardDrops = s.counters.forwardDrops ∧
    (abandonedFrameEnded f s).counters.droppedRequests = s.counters.droppedRequests ∧
    (abandonedFrameEnded f s).params = s.params ∧ (abandonedFrameEnded f s).manager = s.manager ∧
    (abandonedFrameEnded f s).intake = s.intake ∧ (abandonedFrameEnded f s).deliveryPort.link = s.deliveryPort.link ∧
    (abandonedFrameEnded f s).deliveryPort.lane = s.deliveryPort.lane ∧
    (abandonedFrameEnded f s).deliveryPort.cycles = s.deliveryPort.cycles ∧
    (abandonedFrameEnded f s).deliveryPort.passback = s.deliveryPort.passback ∧
    (abandonedFrameEnded f s).clock = s.clock ∧ (abandonedFrameEnded f s).lines = s.lines ∧
    (abandonedFrameEnded f s).choices = s.choices ∧ (abandonedFrameEnded f s).pending = s.pending := by
  and_intros <;> simp only [abandonedFrameEnded] <;> simp

@[simp] theorem recordFrameEnded_keeps (f : RecordFrame) (s : State) :
    (recordFrameEnded f s).sweeper = s.sweeper ∧ (recordFrameEnded f s).tracker = s.tracker ∧
    (recordFrameEnded f s).trigger = s.trigger ∧ (recordFrameEnded f s).memory.history = s.memory.history ∧
    (recordFrameEnded f s).memory.current = s.memory.current ∧
    (recordFrameEnded f s).memory.reservation = s.memory.reservation ∧ (recordFrameEnded f s).capture = s.capture ∧
    (recordFrameEnded f s).counters.intakeBadFrames = s.counters.intakeBadFrames ∧
    (recordFrameEnded f s).counters.deliveryBadFrames = s.counters.deliveryBadFrames ∧
    (recordFrameEnded f s).counters.strayReplies = s.counters.strayReplies ∧
    (recordFrameEnded f s).counters.lateReplies = s.counters.lateReplies ∧
    (recordFrameEnded f s).counters.mismatchedReplies = s.counters.mismatchedReplies ∧
    (recordFrameEnded f s).counters.replyTimeouts = s.counters.replyTimeouts ∧
    (recordFrameEnded f s).counters.missedSweeps = s.counters.missedSweeps ∧
    (recordFrameEnded f s).counters.ignoredStartEdges = s.counters.ignoredStartEdges ∧
    (recordFrameEnded f s).counters.unstoredSweeps = s.counters.unstoredSweeps ∧
    (recordFrameEnded f s).counters.historySpaceDrops = s.counters.historySpaceDrops ∧
    (recordFrameEnded f s).counters.passbackDrops = s.counters.passbackDrops ∧
    (recordFrameEnded f s).counters.forwardDrops = s.counters.forwardDrops ∧
    (recordFrameEnded f s).counters.droppedRequests = s.counters.droppedRequests ∧
    (recordFrameEnded f s).params = s.params ∧ (recordFrameEnded f s).manager = s.manager ∧
    (recordFrameEnded f s).intake = s.intake ∧ (recordFrameEnded f s).deliveryPort.link = s.deliveryPort.link ∧
    (recordFrameEnded f s).deliveryPort.lane = s.deliveryPort.lane ∧
    (recordFrameEnded f s).deliveryPort.cycles = s.deliveryPort.cycles ∧
    (recordFrameEnded f s).deliveryPort.passback = s.deliveryPort.passback ∧ (recordFrameEnded f s).clock = s.clock ∧
    (recordFrameEnded f s).lines = s.lines ∧ (recordFrameEnded f s).choices = s.choices ∧
    (recordFrameEnded f s).pending = s.pending := by
  and_intros <;> simp only [recordFrameEnded] <;> (repeat' split) <;> simp

@[simp] theorem discardStartedHead_keeps (q : QueuedRecord) (rest : List QueuedRecord) (s : State) :
    (discardStartedHead q rest s).sweeper = s.sweeper ∧ (discardStartedHead q rest s).tracker = s.tracker ∧
    (discardStartedHead q rest s).trigger = s.trigger ∧
    (discardStartedHead q rest s).memory.history = s.memory.history ∧
    (discardStartedHead q rest s).memory.current = s.memory.current ∧
    (discardStartedHead q rest s).memory.reservation = s.memory.reservation ∧
    (discardStartedHead q rest s).capture = s.capture ∧
    (discardStartedHead q rest s).delivery.windowA = s.delivery.windowA ∧
    (discardStartedHead q rest s).delivery.windowB = s.delivery.windowB ∧
    (discardStartedHead q rest s).delivery.current = s.delivery.current ∧
    (discardStartedHead q rest s).notices = s.notices ∧ (discardStartedHead q rest s).counters = s.counters ∧
    (discardStartedHead q rest s).params = s.params ∧ (discardStartedHead q rest s).manager = s.manager ∧
    (discardStartedHead q rest s).intake = s.intake ∧ (discardStartedHead q rest s).deliveryPort = s.deliveryPort ∧
    (discardStartedHead q rest s).clock = s.clock ∧ (discardStartedHead q rest s).lines = s.lines ∧
    (discardStartedHead q rest s).choices = s.choices ∧ (discardStartedHead q rest s).pending = s.pending := by
  and_intros <;> simp only [discardStartedHead] <;> (repeat' split) <;> simp

@[simp] theorem startUp_keeps (f : UpFrame) (turn : Nat) (s : State) :
    (startUp f turn s).sweeper = s.sweeper ∧ (startUp f turn s).tracker = s.tracker ∧
    (startUp f turn s).trigger = s.trigger ∧ (startUp f turn s).memory = s.memory ∧
    (startUp f turn s).capture = s.capture ∧ (startUp f turn s).delivery = s.delivery ∧
    (startUp f turn s).notices = s.notices ∧ (startUp f turn s).counters = s.counters ∧
    (startUp f turn s).params = s.params ∧ (startUp f turn s).manager = s.manager ∧
    (startUp f turn s).intake.link = s.intake.link ∧ (startUp f turn s).intake.forward = s.intake.forward ∧
    (startUp f turn s).deliveryPort = s.deliveryPort ∧ (startUp f turn s).clock = s.clock ∧
    (startUp f turn s).lines = s.lines ∧ (startUp f turn s).choices = s.choices ∧
    (startUp f turn s).pending = s.pending := by
  and_intros <;> rfl

@[simp] theorem startDown_keeps (f : DownFrame) (turn : Nat) (s : State) :
    (startDown f turn s).sweeper = s.sweeper ∧ (startDown f turn s).tracker = s.tracker ∧
    (startDown f turn s).trigger = s.trigger ∧ (startDown f turn s).memory = s.memory ∧
    (startDown f turn s).capture = s.capture ∧ (startDown f turn s).delivery = s.delivery ∧
    (startDown f turn s).notices = s.notices ∧ (startDown f turn s).counters = s.counters ∧
    (startDown f turn s).params = s.params ∧ (startDown f turn s).manager = s.manager ∧
    (startDown f turn s).intake = s.intake ∧ (startDown f turn s).deliveryPort.link = s.deliveryPort.link ∧
    (startDown f turn s).deliveryPort.passback = s.deliveryPort.passback ∧ (startDown f turn s).clock = s.clock ∧
    (startDown f turn s).lines = s.lines ∧ (startDown f turn s).choices = s.choices ∧
    (startDown f turn s).pending = s.pending := by
  and_intros <;> rfl

@[simp] theorem chooseUp_keeps (s : State) :
    (chooseUp s).sweeper = s.sweeper ∧ (chooseUp s).tracker.tags = s.tracker.tags ∧
    (chooseUp s).tracker.inFlight = s.tracker.inFlight ∧ (chooseUp s).tracker.lastTag = s.tracker.lastTag ∧
    (chooseUp s).tracker.cursor = s.tracker.cursor ∧ (chooseUp s).tracker.spacing = s.tracker.spacing ∧
    (chooseUp s).trigger = s.trigger ∧ (chooseUp s).memory = s.memory ∧ (chooseUp s).capture = s.capture ∧
    (chooseUp s).delivery = s.delivery ∧ (chooseUp s).notices = s.notices ∧ (chooseUp s).counters = s.counters ∧
    (chooseUp s).params = s.params ∧ (chooseUp s).manager = s.manager ∧ (chooseUp s).intake.link = s.intake.link ∧
    (chooseUp s).deliveryPort = s.deliveryPort ∧ (chooseUp s).clock = s.clock ∧ (chooseUp s).lines = s.lines ∧
    (chooseUp s).choices = s.choices ∧ (chooseUp s).pending = s.pending := by
  and_intros <;> simp only [chooseUp] <;> (repeat' split) <;> simp

@[simp] theorem arbitrateUp_keeps (s : State) :
    (arbitrateUp s).sweeper = s.sweeper ∧ (arbitrateUp s).tracker.tags = s.tracker.tags ∧
    (arbitrateUp s).tracker.inFlight = s.tracker.inFlight ∧ (arbitrateUp s).tracker.lastTag = s.tracker.lastTag ∧
    (arbitrateUp s).tracker.cursor = s.tracker.cursor ∧ (arbitrateUp s).tracker.spacing = s.tracker.spacing ∧
    (arbitrateUp s).trigger = s.trigger ∧ (arbitrateUp s).memory = s.memory ∧ (arbitrateUp s).capture = s.capture ∧
    (arbitrateUp s).delivery = s.delivery ∧ (arbitrateUp s).notices = s.notices ∧
    (arbitrateUp s).counters = s.counters ∧ (arbitrateUp s).params = s.params ∧ (arbitrateUp s).manager = s.manager ∧
    (arbitrateUp s).intake.link = s.intake.link ∧ (arbitrateUp s).deliveryPort = s.deliveryPort ∧
    (arbitrateUp s).clock = s.clock ∧ (arbitrateUp s).lines = s.lines ∧ (arbitrateUp s).choices = s.choices ∧
    (arbitrateUp s).pending = s.pending := by
  and_intros <;> simp only [arbitrateUp] <;> (repeat' split) <;> simp

@[simp] theorem grantRecord_keeps (s : State) :
    (grantRecord s).sweeper = s.sweeper ∧ (grantRecord s).tracker = s.tracker ∧ (grantRecord s).trigger = s.trigger ∧
    (grantRecord s).memory = s.memory ∧ (grantRecord s).capture = s.capture ∧ (grantRecord s).delivery = s.delivery ∧
    (grantRecord s).notices = s.notices ∧ (grantRecord s).counters = s.counters ∧ (grantRecord s).params = s.params ∧
    (grantRecord s).manager = s.manager ∧ (grantRecord s).intake = s.intake ∧
    (grantRecord s).deliveryPort.link = s.deliveryPort.link ∧
    (grantRecord s).deliveryPort.passback = s.deliveryPort.passback ∧ (grantRecord s).clock = s.clock ∧
    (grantRecord s).lines = s.lines ∧ (grantRecord s).choices = s.choices ∧ (grantRecord s).pending = s.pending := by
  and_intros <;> simp only [grantRecord] <;> (repeat' split) <;> simp

@[simp] theorem chooseDown_keeps (s : State) :
    (chooseDown s).sweeper = s.sweeper ∧ (chooseDown s).tracker = s.tracker ∧ (chooseDown s).trigger = s.trigger ∧
    (chooseDown s).memory = s.memory ∧ (chooseDown s).capture = s.capture ∧ (chooseDown s).delivery = s.delivery ∧
    (chooseDown s).counters = s.counters ∧ (chooseDown s).params = s.params ∧
    (chooseDown s).manager.node = s.manager.node ∧ (chooseDown s).manager.requests = s.manager.requests ∧
    (chooseDown s).manager.deferred = s.manager.deferred ∧ (chooseDown s).manager.resetHold = s.manager.resetHold ∧
    (chooseDown s).intake = s.intake ∧ (chooseDown s).deliveryPort.link = s.deliveryPort.link ∧
    (chooseDown s).clock = s.clock ∧ (chooseDown s).lines = s.lines ∧ (chooseDown s).choices = s.choices ∧
    (chooseDown s).pending = s.pending := by
  and_intros <;> simp only [chooseDown] <;> (repeat' split) <;> simp

@[simp] theorem arbitrateDown_keeps (s : State) :
    (arbitrateDown s).sweeper = s.sweeper ∧ (arbitrateDown s).tracker = s.tracker ∧
    (arbitrateDown s).trigger = s.trigger ∧ (arbitrateDown s).memory = s.memory ∧
    (arbitrateDown s).capture = s.capture ∧ (arbitrateDown s).delivery = s.delivery ∧
    (arbitrateDown s).counters = s.counters ∧ (arbitrateDown s).params = s.params ∧
    (arbitrateDown s).manager.node = s.manager.node ∧ (arbitrateDown s).manager.requests = s.manager.requests ∧
    (arbitrateDown s).manager.deferred = s.manager.deferred ∧
    (arbitrateDown s).manager.resetHold = s.manager.resetHold ∧ (arbitrateDown s).intake = s.intake ∧
    (arbitrateDown s).deliveryPort.link = s.deliveryPort.link ∧ (arbitrateDown s).clock = s.clock ∧
    (arbitrateDown s).lines = s.lines ∧ (arbitrateDown s).choices = s.choices ∧
    (arbitrateDown s).pending = s.pending := by
  and_intros <;> simp only [arbitrateDown] <;> (repeat' split) <;> simp

@[simp] theorem settle_keeps (s : State) :
    (settle s).sweeper = s.sweeper ∧ (settle s).tracker.tags = s.tracker.tags ∧
    (settle s).tracker.inFlight = s.tracker.inFlight ∧ (settle s).tracker.lastTag = s.tracker.lastTag ∧
    (settle s).tracker.cursor = s.tracker.cursor ∧ (settle s).tracker.spacing = s.tracker.spacing ∧
    (settle s).trigger = s.trigger ∧ (settle s).memory = s.memory ∧ (settle s).capture = s.capture ∧
    (settle s).delivery = s.delivery ∧ (settle s).counters = s.counters ∧ (settle s).params = s.params ∧
    (settle s).manager.node = s.manager.node ∧ (settle s).manager.requests = s.manager.requests ∧
    (settle s).manager.deferred = s.manager.deferred ∧ (settle s).manager.resetHold = s.manager.resetHold ∧
    (settle s).intake.link = s.intake.link ∧ (settle s).deliveryPort.link = s.deliveryPort.link ∧
    (settle s).clock = s.clock ∧ (settle s).lines = s.lines ∧ (settle s).choices = s.choices ∧
    (settle s).pending = s.pending := by
  and_intros <;> simp only [settle] <;> simp

@[simp] theorem startTimeout_keeps (f : ConvertFrame) (s : State) :
    (startTimeout f s).sweeper = s.sweeper ∧ (startTimeout f s).tracker.tags = s.tracker.tags ∧
    (startTimeout f s).tracker.lastTag = s.tracker.lastTag ∧ (startTimeout f s).tracker.cursor = s.tracker.cursor ∧
    (startTimeout f s).tracker.spacing = s.tracker.spacing ∧
    (startTimeout f s).tracker.converts = s.tracker.converts ∧ (startTimeout f s).trigger = s.trigger ∧
    (startTimeout f s).memory = s.memory ∧ (startTimeout f s).capture = s.capture ∧
    (startTimeout f s).delivery = s.delivery ∧ (startTimeout f s).notices = s.notices ∧
    (startTimeout f s).counters = s.counters ∧ (startTimeout f s).params = s.params ∧
    (startTimeout f s).manager = s.manager ∧ (startTimeout f s).intake = s.intake ∧
    (startTimeout f s).deliveryPort = s.deliveryPort ∧ (startTimeout f s).clock = s.clock ∧
    (startTimeout f s).lines = s.lines ∧ (startTimeout f s).choices = s.choices ∧
    (startTimeout f s).pending = s.pending := by
  and_intros <;> rfl

@[simp] theorem upFrameEnded_keeps (s : State) :
    (upFrameEnded s).sweeper = s.sweeper ∧ (upFrameEnded s).tracker.tags = s.tracker.tags ∧
    (upFrameEnded s).tracker.lastTag = s.tracker.lastTag ∧ (upFrameEnded s).tracker.cursor = s.tracker.cursor ∧
    (upFrameEnded s).tracker.spacing = s.tracker.spacing ∧ (upFrameEnded s).tracker.converts = s.tracker.converts ∧
    (upFrameEnded s).trigger = s.trigger ∧ (upFrameEnded s).memory = s.memory ∧ (upFrameEnded s).capture = s.capture ∧
    (upFrameEnded s).delivery = s.delivery ∧ (upFrameEnded s).notices = s.notices ∧
    (upFrameEnded s).counters = s.counters ∧ (upFrameEnded s).params = s.params ∧
    (upFrameEnded s).manager = s.manager ∧ (upFrameEnded s).intake.link = s.intake.link ∧
    (upFrameEnded s).intake.cycles = s.intake.cycles ∧ (upFrameEnded s).intake.turn = s.intake.turn ∧
    (upFrameEnded s).intake.forward = s.intake.forward ∧ (upFrameEnded s).deliveryPort = s.deliveryPort ∧
    (upFrameEnded s).clock = s.clock ∧ (upFrameEnded s).lines = s.lines ∧ (upFrameEnded s).choices = s.choices ∧
    (upFrameEnded s).pending = s.pending := by
  and_intros <;> simp only [upFrameEnded] <;> (repeat' split) <;> simp

@[simp] theorem downFrameEnded_keeps (s : State) :
    (downFrameEnded s).sweeper = s.sweeper ∧ (downFrameEnded s).tracker = s.tracker ∧
    (downFrameEnded s).trigger = s.trigger ∧ (downFrameEnded s).memory.history = s.memory.history ∧
    (downFrameEnded s).memory.current = s.memory.current ∧
    (downFrameEnded s).memory.reservation = s.memory.reservation ∧ (downFrameEnded s).capture = s.capture ∧
    (downFrameEnded s).counters.intakeBadFrames = s.counters.intakeBadFrames ∧
    (downFrameEnded s).counters.deliveryBadFrames = s.counters.deliveryBadFrames ∧
    (downFrameEnded s).counters.strayReplies = s.counters.strayReplies ∧
    (downFrameEnded s).counters.lateReplies = s.counters.lateReplies ∧
    (downFrameEnded s).counters.mismatchedReplies = s.counters.mismatchedReplies ∧
    (downFrameEnded s).counters.replyTimeouts = s.counters.replyTimeouts ∧
    (downFrameEnded s).counters.missedSweeps = s.counters.missedSweeps ∧
    (downFrameEnded s).counters.ignoredStartEdges = s.counters.ignoredStartEdges ∧
    (downFrameEnded s).counters.unstoredSweeps = s.counters.unstoredSweeps ∧
    (downFrameEnded s).counters.historySpaceDrops = s.counters.historySpaceDrops ∧
    (downFrameEnded s).counters.passbackDrops = s.counters.passbackDrops ∧
    (downFrameEnded s).counters.forwardDrops = s.counters.forwardDrops ∧
    (downFrameEnded s).counters.droppedRequests = s.counters.droppedRequests ∧ (downFrameEnded s).params = s.params ∧
    (downFrameEnded s).manager = s.manager ∧ (downFrameEnded s).intake = s.intake ∧
    (downFrameEnded s).deliveryPort.link = s.deliveryPort.link ∧
    (downFrameEnded s).deliveryPort.cycles = s.deliveryPort.cycles ∧
    (downFrameEnded s).deliveryPort.passback = s.deliveryPort.passback ∧ (downFrameEnded s).clock = s.clock ∧
    (downFrameEnded s).lines = s.lines ∧ (downFrameEnded s).choices = s.choices ∧
    (downFrameEnded s).pending = s.pending := by
  and_intros <;> simp only [downFrameEnded] <;> (repeat' split) <;> simp

@[simp] theorem intakeDropped_keeps (s : State) :
    (intakeDropped s).sweeper.program = s.sweeper.program ∧ (intakeDropped s).sweeper.fixedS = s.sweeper.fixedS ∧
    (intakeDropped s).sweeper.burstCount = s.sweeper.burstCount ∧
    (intakeDropped s).sweeper.sweepNumber = s.sweeper.sweepNumber ∧
    (intakeDropped s).sweeper.gapPending = s.sweeper.gapPending ∧
    (intakeDropped s).sweeper.startLevel = s.sweeper.startLevel ∧
    (intakeDropped s).tracker.lastTag = s.tracker.lastTag ∧ (intakeDropped s).tracker.spacing = s.tracker.spacing ∧
    (intakeDropped s).delivery.windowA = s.delivery.windowA ∧
    (intakeDropped s).delivery.windowB = s.delivery.windowB ∧
    (intakeDropped s).delivery.current = s.delivery.current ∧
    (intakeDropped s).delivery.position = s.delivery.position ∧ (intakeDropped s).delivery.note = s.delivery.note ∧
    (intakeDropped s).counters.intakeBadFrames = s.counters.intakeBadFrames ∧
    (intakeDropped s).counters.deliveryBadFrames = s.counters.deliveryBadFrames ∧
    (intakeDropped s).counters.strayReplies = s.counters.strayReplies ∧
    (intakeDropped s).counters.lateReplies = s.counters.lateReplies ∧
    (intakeDropped s).counters.mismatchedReplies = s.counters.mismatchedReplies ∧
    (intakeDropped s).counters.replyTimeouts = s.counters.replyTimeouts ∧
    (intakeDropped s).counters.missedSweeps = s.counters.missedSweeps ∧
    (intakeDropped s).counters.ignoredStartEdges = s.counters.ignoredStartEdges ∧
    (intakeDropped s).counters.unstoredSweeps = s.counters.unstoredSweeps ∧
    (intakeDropped s).counters.historySpaceDrops = s.counters.historySpaceDrops ∧
    (intakeDropped s).counters.passbackDrops = s.counters.passbackDrops ∧
    (intakeDropped s).counters.droppedRequests = s.counters.droppedRequests ∧ (intakeDropped s).params = s.params ∧
    (intakeDropped s).manager.node = s.manager.node ∧ (intakeDropped s).manager.requests = s.manager.requests ∧
    (intakeDropped s).manager.resetHold = s.manager.resetHold ∧ (intakeDropped s).intake.link = s.intake.link ∧
    (intakeDropped s).intake.cycles = s.intake.cycles ∧ (intakeDropped s).deliveryPort = s.deliveryPort ∧
    (intakeDropped s).clock = s.clock ∧ (intakeDropped s).lines = s.lines ∧ (intakeDropped s).choices = s.choices ∧
    (intakeDropped s).pending = s.pending := by
  and_intros <;> simp only [intakeDropped] <;> simp

@[simp] theorem deliveryDropped_keeps (s : State) :
    (deliveryDropped s).sweeper = s.sweeper ∧ (deliveryDropped s).tracker = s.tracker ∧
    (deliveryDropped s).trigger = s.trigger ∧ (deliveryDropped s).memory.history = s.memory.history ∧
    (deliveryDropped s).memory.current = s.memory.current ∧
    (deliveryDropped s).memory.reservation = s.memory.reservation ∧ (deliveryDropped s).capture = s.capture ∧
    (deliveryDropped s).counters.intakeBadFrames = s.counters.intakeBadFrames ∧
    (deliveryDropped s).counters.deliveryBadFrames = s.counters.deliveryBadFrames ∧
    (deliveryDropped s).counters.strayReplies = s.counters.strayReplies ∧
    (deliveryDropped s).counters.lateReplies = s.counters.lateReplies ∧
    (deliveryDropped s).counters.mismatchedReplies = s.counters.mismatchedReplies ∧
    (deliveryDropped s).counters.replyTimeouts = s.counters.replyTimeouts ∧
    (deliveryDropped s).counters.missedSweeps = s.counters.missedSweeps ∧
    (deliveryDropped s).counters.ignoredStartEdges = s.counters.ignoredStartEdges ∧
    (deliveryDropped s).counters.unstoredSweeps = s.counters.unstoredSweeps ∧
    (deliveryDropped s).counters.historySpaceDrops = s.counters.historySpaceDrops ∧
    (deliveryDropped s).counters.forwardDrops = s.counters.forwardDrops ∧
    (deliveryDropped s).counters.droppedRequests = s.counters.droppedRequests ∧
    (deliveryDropped s).params = s.params ∧ (deliveryDropped s).manager = s.manager ∧
    (deliveryDropped s).intake = s.intake ∧ (deliveryDropped s).deliveryPort.link = s.deliveryPort.link ∧
    (deliveryDropped s).deliveryPort.cycles = s.deliveryPort.cycles ∧ (deliveryDropped s).clock = s.clock ∧
    (deliveryDropped s).lines = s.lines ∧ (deliveryDropped s).choices = s.choices ∧
    (deliveryDropped s).pending = s.pending := by
  and_intros <;> simp only [deliveryDropped] <;> simp

@[simp] theorem setIntakeLink_keeps (l : Link) (s : State) :
    (setIntakeLink l s).sweeper.program = s.sweeper.program ∧ (setIntakeLink l s).sweeper.fixedS = s.sweeper.fixedS ∧
    (setIntakeLink l s).sweeper.burstCount = s.sweeper.burstCount ∧
    (setIntakeLink l s).sweeper.sweepNumber = s.sweeper.sweepNumber ∧
    (setIntakeLink l s).sweeper.gapPending = s.sweeper.gapPending ∧
    (setIntakeLink l s).sweeper.startLevel = s.sweeper.startLevel ∧
    (setIntakeLink l s).tracker.lastTag = s.tracker.lastTag ∧
    (setIntakeLink l s).tracker.spacing = s.tracker.spacing ∧
    (setIntakeLink l s).delivery.windowA = s.delivery.windowA ∧
    (setIntakeLink l s).delivery.windowB = s.delivery.windowB ∧
    (setIntakeLink l s).delivery.current = s.delivery.current ∧
    (setIntakeLink l s).delivery.position = s.delivery.position ∧
    (setIntakeLink l s).delivery.note = s.delivery.note ∧
    (setIntakeLink l s).counters.intakeBadFrames = s.counters.intakeBadFrames ∧
    (setIntakeLink l s).counters.deliveryBadFrames = s.counters.deliveryBadFrames ∧
    (setIntakeLink l s).counters.strayReplies = s.counters.strayReplies ∧
    (setIntakeLink l s).counters.lateReplies = s.counters.lateReplies ∧
    (setIntakeLink l s).counters.mismatchedReplies = s.counters.mismatchedReplies ∧
    (setIntakeLink l s).counters.replyTimeouts = s.counters.replyTimeouts ∧
    (setIntakeLink l s).counters.missedSweeps = s.counters.missedSweeps ∧
    (setIntakeLink l s).counters.ignoredStartEdges = s.counters.ignoredStartEdges ∧
    (setIntakeLink l s).counters.unstoredSweeps = s.counters.unstoredSweeps ∧
    (setIntakeLink l s).counters.historySpaceDrops = s.counters.historySpaceDrops ∧
    (setIntakeLink l s).counters.passbackDrops = s.counters.passbackDrops ∧
    (setIntakeLink l s).counters.droppedRequests = s.counters.droppedRequests ∧
    (setIntakeLink l s).params = s.params ∧ (setIntakeLink l s).manager.node = s.manager.node ∧
    (setIntakeLink l s).manager.requests = s.manager.requests ∧
    (setIntakeLink l s).manager.resetHold = s.manager.resetHold ∧
    (setIntakeLink l s).intake.cycles = s.intake.cycles ∧ (setIntakeLink l s).deliveryPort = s.deliveryPort ∧
    (setIntakeLink l s).clock = s.clock ∧ (setIntakeLink l s).lines = s.lines ∧
    (setIntakeLink l s).choices = s.choices ∧ (setIntakeLink l s).pending = s.pending := by
  and_intros <;> simp only [setIntakeLink] <;> (repeat' split) <;> simp

@[simp] theorem setDeliveryLink_keeps (l : Link) (s : State) :
    (setDeliveryLink l s).sweeper = s.sweeper ∧ (setDeliveryLink l s).tracker = s.tracker ∧
    (setDeliveryLink l s).trigger = s.trigger ∧ (setDeliveryLink l s).memory.history = s.memory.history ∧
    (setDeliveryLink l s).memory.current = s.memory.current ∧
    (setDeliveryLink l s).memory.reservation = s.memory.reservation ∧ (setDeliveryLink l s).capture = s.capture ∧
    (setDeliveryLink l s).counters.intakeBadFrames = s.counters.intakeBadFrames ∧
    (setDeliveryLink l s).counters.deliveryBadFrames = s.counters.deliveryBadFrames ∧
    (setDeliveryLink l s).counters.strayReplies = s.counters.strayReplies ∧
    (setDeliveryLink l s).counters.lateReplies = s.counters.lateReplies ∧
    (setDeliveryLink l s).counters.mismatchedReplies = s.counters.mismatchedReplies ∧
    (setDeliveryLink l s).counters.replyTimeouts = s.counters.replyTimeouts ∧
    (setDeliveryLink l s).counters.missedSweeps = s.counters.missedSweeps ∧
    (setDeliveryLink l s).counters.ignoredStartEdges = s.counters.ignoredStartEdges ∧
    (setDeliveryLink l s).counters.unstoredSweeps = s.counters.unstoredSweeps ∧
    (setDeliveryLink l s).counters.historySpaceDrops = s.counters.historySpaceDrops ∧
    (setDeliveryLink l s).counters.forwardDrops = s.counters.forwardDrops ∧
    (setDeliveryLink l s).counters.droppedRequests = s.counters.droppedRequests ∧
    (setDeliveryLink l s).params = s.params ∧ (setDeliveryLink l s).manager = s.manager ∧
    (setDeliveryLink l s).intake = s.intake ∧ (setDeliveryLink l s).deliveryPort.cycles = s.deliveryPort.cycles ∧
    (setDeliveryLink l s).clock = s.clock ∧ (setDeliveryLink l s).lines = s.lines ∧
    (setDeliveryLink l s).choices = s.choices ∧ (setDeliveryLink l s).pending = s.pending := by
  and_intros <;> simp only [setDeliveryLink] <;> (repeat' split) <;> simp

@[simp] theorem setLink_keeps (p : Port) (l : Link) (s : State) :
    (setLink p l s).sweeper.program = s.sweeper.program ∧ (setLink p l s).sweeper.fixedS = s.sweeper.fixedS ∧
    (setLink p l s).sweeper.burstCount = s.sweeper.burstCount ∧
    (setLink p l s).sweeper.sweepNumber = s.sweeper.sweepNumber ∧
    (setLink p l s).sweeper.gapPending = s.sweeper.gapPending ∧
    (setLink p l s).sweeper.startLevel = s.sweeper.startLevel ∧ (setLink p l s).tracker.lastTag = s.tracker.lastTag ∧
    (setLink p l s).tracker.spacing = s.tracker.spacing ∧
    (setLink p l s).counters.intakeBadFrames = s.counters.intakeBadFrames ∧
    (setLink p l s).counters.deliveryBadFrames = s.counters.deliveryBadFrames ∧
    (setLink p l s).counters.strayReplies = s.counters.strayReplies ∧
    (setLink p l s).counters.lateReplies = s.counters.lateReplies ∧
    (setLink p l s).counters.mismatchedReplies = s.counters.mismatchedReplies ∧
    (setLink p l s).counters.replyTimeouts = s.counters.replyTimeouts ∧
    (setLink p l s).counters.missedSweeps = s.counters.missedSweeps ∧
    (setLink p l s).counters.ignoredStartEdges = s.counters.ignoredStartEdges ∧
    (setLink p l s).counters.unstoredSweeps = s.counters.unstoredSweeps ∧
    (setLink p l s).counters.historySpaceDrops = s.counters.historySpaceDrops ∧
    (setLink p l s).counters.droppedRequests = s.counters.droppedRequests ∧ (setLink p l s).params = s.params ∧
    (setLink p l s).manager.node = s.manager.node ∧ (setLink p l s).manager.requests = s.manager.requests ∧
    (setLink p l s).manager.resetHold = s.manager.resetHold ∧ (setLink p l s).intake.cycles = s.intake.cycles ∧
    (setLink p l s).deliveryPort.cycles = s.deliveryPort.cycles ∧ (setLink p l s).clock = s.clock ∧
    (setLink p l s).lines = s.lines ∧ (setLink p l s).choices = s.choices ∧ (setLink p l s).pending = s.pending := by
  and_intros <;> simp only [setLink] <;> (repeat' split) <;> simp

@[simp] theorem goodReception_keeps (p : Port) (s : State) :
    (goodReception p s).sweeper.program = s.sweeper.program ∧ (goodReception p s).sweeper.fixedS = s.sweeper.fixedS ∧
    (goodReception p s).sweeper.burstCount = s.sweeper.burstCount ∧
    (goodReception p s).sweeper.sweepNumber = s.sweeper.sweepNumber ∧
    (goodReception p s).sweeper.gapPending = s.sweeper.gapPending ∧
    (goodReception p s).sweeper.startLevel = s.sweeper.startLevel ∧
    (goodReception p s).tracker.lastTag = s.tracker.lastTag ∧
    (goodReception p s).tracker.spacing = s.tracker.spacing ∧
    (goodReception p s).counters.intakeBadFrames = s.counters.intakeBadFrames ∧
    (goodReception p s).counters.deliveryBadFrames = s.counters.deliveryBadFrames ∧
    (goodReception p s).counters.strayReplies = s.counters.strayReplies ∧
    (goodReception p s).counters.lateReplies = s.counters.lateReplies ∧
    (goodReception p s).counters.mismatchedReplies = s.counters.mismatchedReplies ∧
    (goodReception p s).counters.replyTimeouts = s.counters.replyTimeouts ∧
    (goodReception p s).counters.missedSweeps = s.counters.missedSweeps ∧
    (goodReception p s).counters.ignoredStartEdges = s.counters.ignoredStartEdges ∧
    (goodReception p s).counters.unstoredSweeps = s.counters.unstoredSweeps ∧
    (goodReception p s).counters.historySpaceDrops = s.counters.historySpaceDrops ∧
    (goodReception p s).counters.droppedRequests = s.counters.droppedRequests ∧
    (goodReception p s).params = s.params ∧ (goodReception p s).manager.node = s.manager.node ∧
    (goodReception p s).manager.requests = s.manager.requests ∧
    (goodReception p s).manager.resetHold = s.manager.resetHold ∧
    (goodReception p s).intake.cycles = s.intake.cycles ∧
    (goodReception p s).deliveryPort.cycles = s.deliveryPort.cycles ∧ (goodReception p s).clock = s.clock ∧
    (goodReception p s).lines = s.lines ∧ (goodReception p s).choices = s.choices ∧
    (goodReception p s).pending = s.pending := by
  and_intros <;> simp only [goodReception] <;> simp

@[simp] theorem badReception_keeps (p : Port) (s : State) :
    (badReception p s).sweeper.program = s.sweeper.program ∧ (badReception p s).sweeper.fixedS = s.sweeper.fixedS ∧
    (badReception p s).sweeper.burstCount = s.sweeper.burstCount ∧
    (badReception p s).sweeper.sweepNumber = s.sweeper.sweepNumber ∧
    (badReception p s).sweeper.gapPending = s.sweeper.gapPending ∧
    (badReception p s).sweeper.startLevel = s.sweeper.startLevel ∧
    (badReception p s).tracker.lastTag = s.tracker.lastTag ∧ (badReception p s).tracker.spacing = s.tracker.spacing ∧
    (badReception p s).counters.intakeBadFrames = s.counters.intakeBadFrames ∧
    (badReception p s).counters.deliveryBadFrames = s.counters.deliveryBadFrames ∧
    (badReception p s).counters.strayReplies = s.counters.strayReplies ∧
    (badReception p s).counters.lateReplies = s.counters.lateReplies ∧
    (badReception p s).counters.mismatchedReplies = s.counters.mismatchedReplies ∧
    (badReception p s).counters.replyTimeouts = s.counters.replyTimeouts ∧
    (badReception p s).counters.missedSweeps = s.counters.missedSweeps ∧
    (badReception p s).counters.ignoredStartEdges = s.counters.ignoredStartEdges ∧
    (badReception p s).counters.unstoredSweeps = s.counters.unstoredSweeps ∧
    (badReception p s).counters.historySpaceDrops = s.counters.historySpaceDrops ∧
    (badReception p s).counters.droppedRequests = s.counters.droppedRequests ∧ (badReception p s).params = s.params ∧
    (badReception p s).manager.node = s.manager.node ∧ (badReception p s).manager.requests = s.manager.requests ∧
    (badReception p s).manager.resetHold = s.manager.resetHold ∧ (badReception p s).intake.cycles = s.intake.cycles ∧
    (badReception p s).deliveryPort.cycles = s.deliveryPort.cycles ∧ (badReception p s).clock = s.clock ∧
    (badReception p s).lines = s.lines ∧ (badReception p s).choices = s.choices ∧
    (badReception p s).pending = s.pending := by
  and_intros <;> simp only [badReception] <;> simp

@[simp] theorem countBadFrame_keeps (p : Port) (s : State) :
    (countBadFrame p s).sweeper = s.sweeper ∧ (countBadFrame p s).tracker = s.tracker ∧
    (countBadFrame p s).trigger = s.trigger ∧ (countBadFrame p s).memory = s.memory ∧
    (countBadFrame p s).capture = s.capture ∧ (countBadFrame p s).delivery = s.delivery ∧
    (countBadFrame p s).notices = s.notices ∧ (countBadFrame p s).counters.strayReplies = s.counters.strayReplies ∧
    (countBadFrame p s).counters.lateReplies = s.counters.lateReplies ∧
    (countBadFrame p s).counters.mismatchedReplies = s.counters.mismatchedReplies ∧
    (countBadFrame p s).counters.replyTimeouts = s.counters.replyTimeouts ∧
    (countBadFrame p s).counters.missedSweeps = s.counters.missedSweeps ∧
    (countBadFrame p s).counters.ignoredStartEdges = s.counters.ignoredStartEdges ∧
    (countBadFrame p s).counters.unstoredSweeps = s.counters.unstoredSweeps ∧
    (countBadFrame p s).counters.historySpaceDrops = s.counters.historySpaceDrops ∧
    (countBadFrame p s).counters.lostNotices = s.counters.lostNotices ∧
    (countBadFrame p s).counters.passbackDrops = s.counters.passbackDrops ∧
    (countBadFrame p s).counters.forwardDrops = s.counters.forwardDrops ∧
    (countBadFrame p s).counters.droppedRequests = s.counters.droppedRequests ∧
    (countBadFrame p s).params = s.params ∧ (countBadFrame p s).manager = s.manager ∧
    (countBadFrame p s).intake = s.intake ∧ (countBadFrame p s).deliveryPort = s.deliveryPort ∧
    (countBadFrame p s).clock = s.clock ∧ (countBadFrame p s).lines = s.lines ∧
    (countBadFrame p s).choices = s.choices ∧ (countBadFrame p s).pending = s.pending := by
  and_intros <;> simp only [countBadFrame] <;> (repeat' split) <;> simp

@[simp] theorem receiveBadFrame_keeps (p : Port) (s : State) :
    (receiveBadFrame p s).sweeper.program = s.sweeper.program ∧
    (receiveBadFrame p s).sweeper.fixedS = s.sweeper.fixedS ∧
    (receiveBadFrame p s).sweeper.burstCount = s.sweeper.burstCount ∧
    (receiveBadFrame p s).sweeper.sweepNumber = s.sweeper.sweepNumber ∧
    (receiveBadFrame p s).sweeper.gapPending = s.sweeper.gapPending ∧
    (receiveBadFrame p s).sweeper.startLevel = s.sweeper.startLevel ∧
    (receiveBadFrame p s).tracker.lastTag = s.tracker.lastTag ∧
    (receiveBadFrame p s).tracker.spacing = s.tracker.spacing ∧
    (receiveBadFrame p s).counters.strayReplies = s.counters.strayReplies ∧
    (receiveBadFrame p s).counters.lateReplies = s.counters.lateReplies ∧
    (receiveBadFrame p s).counters.mismatchedReplies = s.counters.mismatchedReplies ∧
    (receiveBadFrame p s).counters.replyTimeouts = s.counters.replyTimeouts ∧
    (receiveBadFrame p s).counters.missedSweeps = s.counters.missedSweeps ∧
    (receiveBadFrame p s).counters.ignoredStartEdges = s.counters.ignoredStartEdges ∧
    (receiveBadFrame p s).counters.unstoredSweeps = s.counters.unstoredSweeps ∧
    (receiveBadFrame p s).counters.historySpaceDrops = s.counters.historySpaceDrops ∧
    (receiveBadFrame p s).counters.droppedRequests = s.counters.droppedRequests ∧
    (receiveBadFrame p s).params = s.params ∧ (receiveBadFrame p s).manager.node = s.manager.node ∧
    (receiveBadFrame p s).manager.requests = s.manager.requests ∧
    (receiveBadFrame p s).manager.resetHold = s.manager.resetHold ∧
    (receiveBadFrame p s).intake.cycles = s.intake.cycles ∧
    (receiveBadFrame p s).deliveryPort.cycles = s.deliveryPort.cycles ∧ (receiveBadFrame p s).clock = s.clock ∧
    (receiveBadFrame p s).lines = s.lines ∧ (receiveBadFrame p s).choices = s.choices ∧
    (receiveBadFrame p s).pending = s.pending := by
  and_intros <;> simp only [receiveBadFrame] <;> (repeat' split) <;> simp

end Sys2Proof.Machine
end

