-- ==== Sys2Proof/Laws/Requests.lean ====
section
/-! SUPPORT. Frames: what the meanings of the requests leave as it was; each lemma is one conjunction of projections, for simp. -/

namespace Sys2Proof.Machine

@[simp] theorem echoBody_keeps (r : Request) (s : State) :
    (echoBody r s).sweeper = s.sweeper ∧ (echoBody r s).tracker = s.tracker ∧ (echoBody r s).trigger = s.trigger ∧
    (echoBody r s).memory = s.memory ∧ (echoBody r s).capture = s.capture ∧ (echoBody r s).delivery = s.delivery ∧
    (echoBody r s).notices = s.notices ∧ (echoBody r s).counters = s.counters ∧ (echoBody r s).params = s.params ∧
    (echoBody r s).manager.node = s.manager.node ∧ (echoBody r s).manager.requests = s.manager.requests ∧
    (echoBody r s).manager.deferred = s.manager.deferred ∧ (echoBody r s).manager.resetHold = s.manager.resetHold ∧
    (echoBody r s).intake = s.intake ∧ (echoBody r s).deliveryPort = s.deliveryPort ∧ (echoBody r s).clock = s.clock ∧
    (echoBody r s).lines = s.lines ∧ (echoBody r s).choices = s.choices ∧ (echoBody r s).pending = s.pending := by
  and_intros <;> simp only [echoBody] <;> (repeat' split) <;> simp

@[simp] theorem readStatusBody_keeps (r : Request) (s : State) :
    (readStatusBody r s).sweeper = s.sweeper ∧ (readStatusBody r s).tracker = s.tracker ∧
    (readStatusBody r s).trigger = s.trigger ∧ (readStatusBody r s).memory = s.memory ∧
    (readStatusBody r s).capture = s.capture ∧ (readStatusBody r s).delivery = s.delivery ∧
    (readStatusBody r s).notices = s.notices ∧ (readStatusBody r s).counters = s.counters ∧
    (readStatusBody r s).params = s.params ∧ (readStatusBody r s).manager.node = s.manager.node ∧
    (readStatusBody r s).manager.requests = s.manager.requests ∧
    (readStatusBody r s).manager.deferred = s.manager.deferred ∧
    (readStatusBody r s).manager.resetHold = s.manager.resetHold ∧ (readStatusBody r s).intake = s.intake ∧
    (readStatusBody r s).deliveryPort = s.deliveryPort ∧ (readStatusBody r s).clock = s.clock ∧
    (readStatusBody r s).lines = s.lines ∧ (readStatusBody r s).choices = s.choices ∧
    (readStatusBody r s).pending = s.pending := by
  and_intros <;> simp only [readStatusBody] <;> (repeat' split) <;> simp

@[simp] theorem putParams_keeps (p : Param) (ps : Params) (s : State) :
    (putParams p ps s).sweeper = s.sweeper ∧ (putParams p ps s).tracker = s.tracker ∧
    (putParams p ps s).trigger.conditions = s.trigger.conditions ∧
    (putParams p ps s).trigger.stage = s.trigger.stage ∧ (putParams p ps s).trigger.forced = s.trigger.forced ∧
    (putParams p ps s).memory = s.memory ∧ (putParams p ps s).capture = s.capture ∧
    (putParams p ps s).delivery = s.delivery ∧ (putParams p ps s).notices = s.notices ∧
    (putParams p ps s).counters = s.counters ∧ (putParams p ps s).manager = s.manager ∧
    (putParams p ps s).intake = s.intake ∧ (putParams p ps s).deliveryPort = s.deliveryPort ∧
    (putParams p ps s).clock = s.clock ∧ (putParams p ps s).lines = s.lines ∧ (putParams p ps s).choices = s.choices ∧
    (putParams p ps s).pending = s.pending := by
  and_intros <;> simp only [putParams] <;> (repeat' split) <;> simp

@[simp] theorem setParameterBody_keeps (r : Request) (s : State) :
    (setParameterBody r s).sweeper = s.sweeper ∧ (setParameterBody r s).tracker = s.tracker ∧
    (setParameterBody r s).trigger.conditions = s.trigger.conditions ∧
    (setParameterBody r s).trigger.stage = s.trigger.stage ∧
    (setParameterBody r s).trigger.forced = s.trigger.forced ∧ (setParameterBody r s).memory = s.memory ∧
    (setParameterBody r s).capture = s.capture ∧ (setParameterBody r s).delivery = s.delivery ∧
    (setParameterBody r s).notices = s.notices ∧ (setParameterBody r s).counters = s.counters ∧
    (setParameterBody r s).manager.node = s.manager.node ∧
    (setParameterBody r s).manager.requests = s.manager.requests ∧
    (setParameterBody r s).manager.deferred = s.manager.deferred ∧
    (setParameterBody r s).manager.resetHold = s.manager.resetHold ∧ (setParameterBody r s).intake = s.intake ∧
    (setParameterBody r s).deliveryPort = s.deliveryPort ∧ (setParameterBody r s).clock = s.clock ∧
    (setParameterBody r s).lines = s.lines ∧ (setParameterBody r s).choices = s.choices ∧
    (setParameterBody r s).pending = s.pending := by
  and_intros <;> simp only [setParameterBody] <;> (repeat' split) <;> simp

@[simp] theorem getParameterBody_keeps (r : Request) (s : State) :
    (getParameterBody r s).sweeper = s.sweeper ∧ (getParameterBody r s).tracker = s.tracker ∧
    (getParameterBody r s).trigger = s.trigger ∧ (getParameterBody r s).memory = s.memory ∧
    (getParameterBody r s).capture = s.capture ∧ (getParameterBody r s).delivery = s.delivery ∧
    (getParameterBody r s).notices = s.notices ∧ (getParameterBody r s).counters = s.counters ∧
    (getParameterBody r s).params = s.params ∧ (getParameterBody r s).manager.node = s.manager.node ∧
    (getParameterBody r s).manager.requests = s.manager.requests ∧
    (getParameterBody r s).manager.deferred = s.manager.deferred ∧
    (getParameterBody r s).manager.resetHold = s.manager.resetHold ∧ (getParameterBody r s).intake = s.intake ∧
    (getParameterBody r s).deliveryPort = s.deliveryPort ∧ (getParameterBody r s).clock = s.clock ∧
    (getParameterBody r s).lines = s.lines ∧ (getParameterBody r s).choices = s.choices ∧
    (getParameterBody r s).pending = s.pending := by
  and_intros <;> simp only [getParameterBody] <;> (repeat' split) <;> simp

@[simp] theorem readCountersBody_keeps (r : Request) (s : State) :
    (readCountersBody r s).sweeper = s.sweeper ∧ (readCountersBody r s).tracker = s.tracker ∧
    (readCountersBody r s).trigger = s.trigger ∧ (readCountersBody r s).memory = s.memory ∧
    (readCountersBody r s).capture = s.capture ∧ (readCountersBody r s).delivery = s.delivery ∧
    (readCountersBody r s).notices = s.notices ∧ (readCountersBody r s).params = s.params ∧
    (readCountersBody r s).manager.node = s.manager.node ∧
    (readCountersBody r s).manager.requests = s.manager.requests ∧
    (readCountersBody r s).manager.deferred = s.manager.deferred ∧
    (readCountersBody r s).manager.resetHold = s.manager.resetHold ∧ (readCountersBody r s).intake = s.intake ∧
    (readCountersBody r s).deliveryPort = s.deliveryPort ∧ (readCountersBody r s).clock = s.clock ∧
    (readCountersBody r s).lines = s.lines ∧ (readCountersBody r s).choices = s.choices ∧
    (readCountersBody r s).pending = s.pending := by
  and_intros <;> simp only [readCountersBody] <;> (repeat' split) <;> simp

@[simp] theorem supersedeStop_keeps (s : State) :
    (supersedeStop s).sweeper = s.sweeper ∧ (supersedeStop s).tracker = s.tracker ∧
    (supersedeStop s).trigger = s.trigger ∧ (supersedeStop s).memory = s.memory ∧
    (supersedeStop s).capture = s.capture ∧ (supersedeStop s).delivery = s.delivery ∧
    (supersedeStop s).notices = s.notices ∧ (supersedeStop s).counters = s.counters ∧
    (supersedeStop s).params = s.params ∧ (supersedeStop s).manager.node = s.manager.node ∧
    (supersedeStop s).manager.requests = s.manager.requests ∧
    (supersedeStop s).manager.resetHold = s.manager.resetHold ∧ (supersedeStop s).intake = s.intake ∧
    (supersedeStop s).deliveryPort = s.deliveryPort ∧ (supersedeStop s).clock = s.clock ∧
    (supersedeStop s).lines = s.lines ∧ (supersedeStop s).choices = s.choices ∧
    (supersedeStop s).pending = s.pending := by
  and_intros <;> simp only [supersedeStop] <;> (repeat' split) <;> simp

@[simp] theorem resetEngineBody_keeps (r : Request) (s : State) :
    (resetEngineBody r s).sweeper = s.sweeper ∧ (resetEngineBody r s).tracker = s.tracker ∧
    (resetEngineBody r s).trigger = s.trigger ∧ (resetEngineBody r s).memory = s.memory ∧
    (resetEngineBody r s).capture = s.capture ∧ (resetEngineBody r s).delivery = s.delivery ∧
    (resetEngineBody r s).notices = s.notices ∧ (resetEngineBody r s).counters = s.counters ∧
    (resetEngineBody r s).params = s.params ∧ (resetEngineBody r s).manager.node = s.manager.node ∧
    (resetEngineBody r s).manager.requests = s.manager.requests ∧ (resetEngineBody r s).intake = s.intake ∧
    (resetEngineBody r s).deliveryPort = s.deliveryPort ∧ (resetEngineBody r s).clock = s.clock ∧
    (resetEngineBody r s).lines = s.lines ∧ (resetEngineBody r s).choices = s.choices ∧
    (resetEngineBody r s).pending = s.pending := by
  and_intros <;> simp only [resetEngineBody] <;> (repeat' split) <;> simp

@[simp] theorem unknownKind_keeps (s : State) :
    (unknownKind s).sweeper = s.sweeper ∧ (unknownKind s).tracker = s.tracker ∧ (unknownKind s).trigger = s.trigger ∧
    (unknownKind s).memory = s.memory ∧ (unknownKind s).capture = s.capture ∧ (unknownKind s).delivery = s.delivery ∧
    (unknownKind s).notices = s.notices ∧ (unknownKind s).counters = s.counters ∧ (unknownKind s).params = s.params ∧
    (unknownKind s).manager.node = s.manager.node ∧ (unknownKind s).manager.deferred = s.manager.deferred ∧
    (unknownKind s).manager.resetHold = s.manager.resetHold ∧ (unknownKind s).intake = s.intake ∧
    (unknownKind s).deliveryPort = s.deliveryPort ∧ (unknownKind s).clock = s.clock ∧
    (unknownKind s).lines = s.lines ∧ (unknownKind s).choices = s.choices ∧ (unknownKind s).pending = s.pending := by
  and_intros <;> simp only [unknownKind] <;> (repeat' split) <;> simp

@[simp] theorem writeProgramEntryBody_keeps (r : Request) (s : State) :
    (writeProgramEntryBody r s).sweeper.fixedS = s.sweeper.fixedS ∧
    (writeProgramEntryBody r s).sweeper.run = s.sweeper.run ∧
    (writeProgramEntryBody r s).sweeper.pacer = s.sweeper.pacer ∧
    (writeProgramEntryBody r s).sweeper.burstCount = s.sweeper.burstCount ∧
    (writeProgramEntryBody r s).sweeper.endCause = s.sweeper.endCause ∧
    (writeProgramEntryBody r s).sweeper.sweepNumber = s.sweeper.sweepNumber ∧
    (writeProgramEntryBody r s).sweeper.sweep = s.sweeper.sweep ∧
    (writeProgramEntryBody r s).sweeper.gapPending = s.sweeper.gapPending ∧
    (writeProgramEntryBody r s).sweeper.startLevel = s.sweeper.startLevel ∧
    (writeProgramEntryBody r s).tracker = s.tracker ∧ (writeProgramEntryBody r s).trigger = s.trigger ∧
    (writeProgramEntryBody r s).memory = s.memory ∧ (writeProgramEntryBody r s).capture = s.capture ∧
    (writeProgramEntryBody r s).delivery = s.delivery ∧ (writeProgramEntryBody r s).notices = s.notices ∧
    (writeProgramEntryBody r s).counters = s.counters ∧ (writeProgramEntryBody r s).params = s.params ∧
    (writeProgramEntryBody r s).manager.node = s.manager.node ∧
    (writeProgramEntryBody r s).manager.requests = s.manager.requests ∧
    (writeProgramEntryBody r s).manager.deferred = s.manager.deferred ∧
    (writeProgramEntryBody r s).manager.resetHold = s.manager.resetHold ∧
    (writeProgramEntryBody r s).intake = s.intake ∧ (writeProgramEntryBody r s).deliveryPort = s.deliveryPort ∧
    (writeProgramEntryBody r s).clock = s.clock ∧ (writeProgramEntryBody r s).lines = s.lines ∧
    (writeProgramEntryBody r s).choices = s.choices ∧ (writeProgramEntryBody r s).pending = s.pending := by
  and_intros <;> simp only [writeProgramEntryBody] <;> (repeat' split) <;> simp

@[simp] theorem readProgramEntryBody_keeps (r : Request) (s : State) :
    (readProgramEntryBody r s).sweeper = s.sweeper ∧ (readProgramEntryBody r s).tracker = s.tracker ∧
    (readProgramEntryBody r s).trigger = s.trigger ∧ (readProgramEntryBody r s).memory = s.memory ∧
    (readProgramEntryBody r s).capture = s.capture ∧ (readProgramEntryBody r s).delivery = s.delivery ∧
    (readProgramEntryBody r s).notices = s.notices ∧ (readProgramEntryBody r s).counters = s.counters ∧
    (readProgramEntryBody r s).params = s.params ∧ (readProgramEntryBody r s).manager.node = s.manager.node ∧
    (readProgramEntryBody r s).manager.requests = s.manager.requests ∧
    (readProgramEntryBody r s).manager.deferred = s.manager.deferred ∧
    (readProgramEntryBody r s).manager.resetHold = s.manager.resetHold ∧
    (readProgramEntryBody r s).intake = s.intake ∧ (readProgramEntryBody r s).deliveryPort = s.deliveryPort ∧
    (readProgramEntryBody r s).clock = s.clock ∧ (readProgramEntryBody r s).lines = s.lines ∧
    (readProgramEntryBody r s).choices = s.choices ∧ (readProgramEntryBody r s).pending = s.pending := by
  and_intros <;> simp only [readProgramEntryBody] <;> (repeat' split) <;> simp

@[simp] theorem restartCapture_keeps (s : State) :
    (restartCapture s).sweeper = s.sweeper ∧ (restartCapture s).tracker = s.tracker ∧
    (restartCapture s).trigger.conditions = s.trigger.conditions ∧
    (restartCapture s).trigger.forced = s.trigger.forced ∧ (restartCapture s).trigger.trigout = s.trigger.trigout ∧
    (restartCapture s).trigger.pulse = s.trigger.pulse ∧ (restartCapture s).memory.current = s.memory.current ∧
    (restartCapture s).memory.reservation = s.memory.reservation ∧
    (restartCapture s).capture.haltCause = s.capture.haltCause ∧ (restartCapture s).capture.quota = s.capture.quota ∧
    (restartCapture s).capture.nextId = s.capture.nextId ∧
    (restartCapture s).capture.openRecord = s.capture.openRecord ∧ (restartCapture s).delivery = s.delivery ∧
    (restartCapture s).notices = s.notices ∧ (restartCapture s).counters = s.counters ∧
    (restartCapture s).params = s.params ∧ (restartCapture s).manager = s.manager ∧
    (restartCapture s).intake = s.intake ∧ (restartCapture s).deliveryPort = s.deliveryPort ∧
    (restartCapture s).clock = s.clock ∧ (restartCapture s).lines = s.lines ∧ (restartCapture s).choices = s.choices ∧
    (restartCapture s).pending = s.pending := by
  and_intros <;> simp only [restartCapture] <;> (repeat' split) <;> simp

@[simp] theorem prepareRun_keeps (s : State) :
    (prepareRun s).sweeper.program = s.sweeper.program ∧ (prepareRun s).sweeper.run = s.sweeper.run ∧
    (prepareRun s).sweeper.pacer = s.sweeper.pacer ∧ (prepareRun s).sweeper.burstCount = s.sweeper.burstCount ∧
    (prepareRun s).sweeper.sweep = s.sweeper.sweep ∧ (prepareRun s).sweeper.startLevel = s.sweeper.startLevel ∧
    (prepareRun s).tracker = s.tracker ∧ (prepareRun s).trigger.forced = s.trigger.forced ∧
    (prepareRun s).trigger.trigout = s.trigger.trigout ∧ (prepareRun s).trigger.pulse = s.trigger.pulse ∧
    (prepareRun s).memory.current = s.memory.current ∧ (prepareRun s).memory.reservation = s.memory.reservation ∧
    (prepareRun s).capture.haltCause = s.capture.haltCause ∧ (prepareRun s).capture.quota = s.capture.quota ∧
    (prepareRun s).capture.nextId = s.capture.nextId ∧ (prepareRun s).capture.openRecord = s.capture.openRecord ∧
    (prepareRun s).delivery = s.delivery ∧ (prepareRun s).notices = s.notices ∧ (prepareRun s).counters = s.counters ∧
    (prepareRun s).params = s.params ∧ (prepareRun s).manager = s.manager ∧ (prepareRun s).intake = s.intake ∧
    (prepareRun s).deliveryPort = s.deliveryPort ∧ (prepareRun s).clock = s.clock ∧ (prepareRun s).lines = s.lines ∧
    (prepareRun s).choices = s.choices ∧ (prepareRun s).pending = s.pending := by
  and_intros <;> simp only [prepareRun] <;> simp

@[simp] theorem enterRun_keeps (s : State) :
    (enterRun s).sweeper.program = s.sweeper.program ∧ (enterRun s).sweeper.fixedS = s.sweeper.fixedS ∧
    (enterRun s).sweeper.startLevel = s.sweeper.startLevel ∧ (enterRun s).delivery.windowA = s.delivery.windowA ∧
    (enterRun s).delivery.windowB = s.delivery.windowB ∧ (enterRun s).delivery.current = s.delivery.current ∧
    (enterRun s).delivery.position = s.delivery.position ∧ (enterRun s).delivery.note = s.delivery.note ∧
    (enterRun s).counters.intakeBadFrames = s.counters.intakeBadFrames ∧
    (enterRun s).counters.deliveryBadFrames = s.counters.deliveryBadFrames ∧
    (enterRun s).counters.strayReplies = s.counters.strayReplies ∧
    (enterRun s).counters.lateReplies = s.counters.lateReplies ∧
    (enterRun s).counters.mismatchedReplies = s.counters.mismatchedReplies ∧
    (enterRun s).counters.replyTimeouts = s.counters.replyTimeouts ∧
    (enterRun s).counters.missedSweeps = s.counters.missedSweeps ∧
    (enterRun s).counters.ignoredStartEdges = s.counters.ignoredStartEdges ∧
    (enterRun s).counters.passbackDrops = s.counters.passbackDrops ∧
    (enterRun s).counters.forwardDrops = s.counters.forwardDrops ∧
    (enterRun s).counters.droppedRequests = s.counters.droppedRequests ∧ (enterRun s).params = s.params ∧
    (enterRun s).manager.node = s.manager.node ∧ (enterRun s).manager.requests = s.manager.requests ∧
    (enterRun s).manager.resetHold = s.manager.resetHold ∧ (enterRun s).intake = s.intake ∧
    (enterRun s).deliveryPort = s.deliveryPort ∧ (enterRun s).clock = s.clock ∧ (enterRun s).lines = s.lines ∧
    (enterRun s).choices = s.choices ∧ (enterRun s).pending = s.pending := by
  and_intros <;> simp only [enterRun] <;> (repeat' split) <;> simp

@[simp] theorem startRunBody_keeps (lines : Lines) (r : Request) (s : State) :
    (startRunBody lines r s).sweeper.program = s.sweeper.program ∧
    (startRunBody lines r s).sweeper.startLevel = s.sweeper.startLevel ∧
    (startRunBody lines r s).delivery.windowA = s.delivery.windowA ∧
    (startRunBody lines r s).delivery.windowB = s.delivery.windowB ∧
    (startRunBody lines r s).delivery.current = s.delivery.current ∧
    (startRunBody lines r s).delivery.position = s.delivery.position ∧
    (startRunBody lines r s).delivery.note = s.delivery.note ∧
    (startRunBody lines r s).counters.intakeBadFrames = s.counters.intakeBadFrames ∧
    (startRunBody lines r s).counters.deliveryBadFrames = s.counters.deliveryBadFrames ∧
    (startRunBody lines r s).counters.strayReplies = s.counters.strayReplies ∧
    (startRunBody lines r s).counters.lateReplies = s.counters.lateReplies ∧
    (startRunBody lines r s).counters.mismatchedReplies = s.counters.mismatchedReplies ∧
    (startRunBody lines r s).counters.replyTimeouts = s.counters.replyTimeouts ∧
    (startRunBody lines r s).counters.missedSweeps = s.counters.missedSweeps ∧
    (startRunBody lines r s).counters.ignoredStartEdges = s.counters.ignoredStartEdges ∧
    (startRunBody lines r s).counters.passbackDrops = s.counters.passbackDrops ∧
    (startRunBody lines r s).counters.forwardDrops = s.counters.forwardDrops ∧
    (startRunBody lines r s).counters.droppedRequests = s.counters.droppedRequests ∧
    (startRunBody lines r s).params = s.params ∧ (startRunBody lines r s).manager.node = s.manager.node ∧
    (startRunBody lines r s).manager.requests = s.manager.requests ∧
    (startRunBody lines r s).manager.resetHold = s.manager.resetHold ∧ (startRunBody lines r s).intake = s.intake ∧
    (startRunBody lines r s).deliveryPort = s.deliveryPort ∧ (startRunBody lines r s).clock = s.clock ∧
    (startRunBody lines r s).choices = s.choices ∧ (startRunBody lines r s).pending = s.pending := by
  and_intros <;> simp only [startRunBody] <;> (repeat' split) <;> simp

@[simp] theorem stopRunBody_keeps (r : Request) (s : State) :
    (stopRunBody r s).sweeper.program = s.sweeper.program ∧ (stopRunBody r s).sweeper.fixedS = s.sweeper.fixedS ∧
    (stopRunBody r s).sweeper.burstCount = s.sweeper.burstCount ∧
    (stopRunBody r s).sweeper.sweepNumber = s.sweeper.sweepNumber ∧
    (stopRunBody r s).sweeper.sweep = s.sweeper.sweep ∧ (stopRunBody r s).sweeper.gapPending = s.sweeper.gapPending ∧
    (stopRunBody r s).sweeper.startLevel = s.sweeper.startLevel ∧ (stopRunBody r s).tracker = s.tracker ∧
    (stopRunBody r s).trigger.conditions = s.trigger.conditions ∧
    (stopRunBody r s).trigger.forced = s.trigger.forced ∧ (stopRunBody r s).trigger.pulse = s.trigger.pulse ∧
    (stopRunBody r s).memory.history = s.memory.history ∧ (stopRunBody r s).memory.current = s.memory.current ∧
    (stopRunBody r s).capture.nextId = s.capture.nextId ∧ (stopRunBody r s).delivery.windowA = s.delivery.windowA ∧
    (stopRunBody r s).delivery.windowB = s.delivery.windowB ∧
    (stopRunBody r s).delivery.current = s.delivery.current ∧
    (stopRunBody r s).delivery.position = s.delivery.position ∧ (stopRunBody r s).delivery.note = s.delivery.note ∧
    (stopRunBody r s).counters.intakeBadFrames = s.counters.intakeBadFrames ∧
    (stopRunBody r s).counters.deliveryBadFrames = s.counters.deliveryBadFrames ∧
    (stopRunBody r s).counters.strayReplies = s.counters.strayReplies ∧
    (stopRunBody r s).counters.lateReplies = s.counters.lateReplies ∧
    (stopRunBody r s).counters.mismatchedReplies = s.counters.mismatchedReplies ∧
    (stopRunBody r s).counters.replyTimeouts = s.counters.replyTimeouts ∧
    (stopRunBody r s).counters.missedSweeps = s.counters.missedSweeps ∧
    (stopRunBody r s).counters.ignoredStartEdges = s.counters.ignoredStartEdges ∧
    (stopRunBody r s).counters.unstoredSweeps = s.counters.unstoredSweeps ∧
    (stopRunBody r s).counters.historySpaceDrops = s.counters.historySpaceDrops ∧
    (stopRunBody r s).counters.passbackDrops = s.counters.passbackDrops ∧
    (stopRunBody r s).counters.forwardDrops = s.counters.forwardDrops ∧
    (stopRunBody r s).counters.droppedRequests = s.counters.droppedRequests ∧ (stopRunBody r s).params = s.params ∧
    (stopRunBody r s).manager.node = s.manager.node ∧ (stopRunBody r s).manager.requests = s.manager.requests ∧
    (stopRunBody r s).manager.resetHold = s.manager.resetHold ∧ (stopRunBody r s).intake = s.intake ∧
    (stopRunBody r s).deliveryPort = s.deliveryPort ∧ (stopRunBody r s).clock = s.clock ∧
    (stopRunBody r s).lines = s.lines ∧ (stopRunBody r s).choices = s.choices ∧
    (stopRunBody r s).pending = s.pending := by
  and_intros <;> simp only [stopRunBody, deferStop] <;> (repeat' split) <;> simp

@[simp] theorem writeConditionBody_keeps (r : Request) (s : State) :
    (writeConditionBody r s).sweeper = s.sweeper ∧ (writeConditionBody r s).tracker = s.tracker ∧
    (writeConditionBody r s).trigger.stage = s.trigger.stage ∧
    (writeConditionBody r s).trigger.forced = s.trigger.forced ∧
    (writeConditionBody r s).trigger.trigout = s.trigger.trigout ∧
    (writeConditionBody r s).trigger.pulse = s.trigger.pulse ∧ (writeConditionBody r s).memory = s.memory ∧
    (writeConditionBody r s).capture = s.capture ∧ (writeConditionBody r s).delivery = s.delivery ∧
    (writeConditionBody r s).notices = s.notices ∧ (writeConditionBody r s).counters = s.counters ∧
    (writeConditionBody r s).params = s.params ∧ (writeConditionBody r s).manager.node = s.manager.node ∧
    (writeConditionBody r s).manager.requests = s.manager.requests ∧
    (writeConditionBody r s).manager.deferred = s.manager.deferred ∧
    (writeConditionBody r s).manager.resetHold = s.manager.resetHold ∧ (writeConditionBody r s).intake = s.intake ∧
    (writeConditionBody r s).deliveryPort = s.deliveryPort ∧ (writeConditionBody r s).clock = s.clock ∧
    (writeConditionBody r s).lines = s.lines ∧ (writeConditionBody r s).choices = s.choices ∧
    (writeConditionBody r s).pending = s.pending := by
  and_intros <;> simp only [writeConditionBody] <;> (repeat' split) <;> simp

@[simp] theorem readConditionBody_keeps (r : Request) (s : State) :
    (readConditionBody r s).sweeper = s.sweeper ∧ (readConditionBody r s).tracker = s.tracker ∧
    (readConditionBody r s).trigger = s.trigger ∧ (readConditionBody r s).memory = s.memory ∧
    (readConditionBody r s).capture = s.capture ∧ (readConditionBody r s).delivery = s.delivery ∧
    (readConditionBody r s).notices = s.notices ∧ (readConditionBody r s).counters = s.counters ∧
    (readConditionBody r s).params = s.params ∧ (readConditionBody r s).manager.node = s.manager.node ∧
    (readConditionBody r s).manager.requests = s.manager.requests ∧
    (readConditionBody r s).manager.deferred = s.manager.deferred ∧
    (readConditionBody r s).manager.resetHold = s.manager.resetHold ∧ (readConditionBody r s).intake = s.intake ∧
    (readConditionBody r s).deliveryPort = s.deliveryPort ∧ (readConditionBody r s).clock = s.clock ∧
    (readConditionBody r s).lines = s.lines ∧ (readConditionBody r s).choices = s.choices ∧
    (readConditionBody r s).pending = s.pending := by
  and_intros <;> simp only [readConditionBody] <;> (repeat' split) <;> simp

@[simp] theorem forceTriggerBody_keeps (r : Request) (s : State) :
    (forceTriggerBody r s).sweeper = s.sweeper ∧ (forceTriggerBody r s).tracker = s.tracker ∧
    (forceTriggerBody r s).trigger.conditions = s.trigger.conditions ∧
    (forceTriggerBody r s).trigger.stage = s.trigger.stage ∧
    (forceTriggerBody r s).trigger.trigout = s.trigger.trigout ∧
    (forceTriggerBody r s).trigger.pulse = s.trigger.pulse ∧ (forceTriggerBody r s).memory = s.memory ∧
    (forceTriggerBody r s).capture = s.capture ∧ (forceTriggerBody r s).delivery = s.delivery ∧
    (forceTriggerBody r s).notices = s.notices ∧ (forceTriggerBody r s).counters = s.counters ∧
    (forceTriggerBody r s).params = s.params ∧ (forceTriggerBody r s).manager.node = s.manager.node ∧
    (forceTriggerBody r s).manager.requests = s.manager.requests ∧
    (forceTriggerBody r s).manager.deferred = s.manager.deferred ∧
    (forceTriggerBody r s).manager.resetHold = s.manager.resetHold ∧ (forceTriggerBody r s).intake = s.intake ∧
    (forceTriggerBody r s).deliveryPort = s.deliveryPort ∧ (forceTriggerBody r s).clock = s.clock ∧
    (forceTriggerBody r s).lines = s.lines ∧ (forceTriggerBody r s).choices = s.choices ∧
    (forceTriggerBody r s).pending = s.pending := by
  and_intros <;> simp only [forceTriggerBody] <;> (repeat' split) <;> simp

@[simp] theorem armEffects_keeps (s : State) :
    (armEffects s).sweeper = s.sweeper ∧ (armEffects s).tracker = s.tracker ∧
    (armEffects s).trigger.conditions = s.trigger.conditions ∧ (armEffects s).trigger.forced = s.trigger.forced ∧
    (armEffects s).trigger.trigout = s.trigger.trigout ∧ (armEffects s).trigger.pulse = s.trigger.pulse ∧
    (armEffects s).memory.history = s.memory.history ∧ (armEffects s).memory.current = s.memory.current ∧
    (armEffects s).capture.haltCause = s.capture.haltCause ∧ (armEffects s).capture.nextId = s.capture.nextId ∧
    (armEffects s).capture.openRecord = s.capture.openRecord ∧ (armEffects s).delivery = s.delivery ∧
    (armEffects s).notices = s.notices ∧ (armEffects s).counters = s.counters ∧ (armEffects s).params = s.params ∧
    (armEffects s).manager = s.manager ∧ (armEffects s).intake = s.intake ∧
    (armEffects s).deliveryPort = s.deliveryPort ∧ (armEffects s).clock = s.clock ∧ (armEffects s).lines = s.lines ∧
    (armEffects s).choices = s.choices ∧ (armEffects s).pending = s.pending := by
  and_intros <;> rfl

@[simp] theorem armBody_keeps (r : Request) (s : State) :
    (armBody r s).sweeper = s.sweeper ∧ (armBody r s).tracker = s.tracker ∧
    (armBody r s).trigger.conditions = s.trigger.conditions ∧ (armBody r s).trigger.forced = s.trigger.forced ∧
    (armBody r s).trigger.trigout = s.trigger.trigout ∧ (armBody r s).trigger.pulse = s.trigger.pulse ∧
    (armBody r s).memory.history = s.memory.history ∧ (armBody r s).memory.current = s.memory.current ∧
    (armBody r s).capture.haltCause = s.capture.haltCause ∧ (armBody r s).capture.nextId = s.capture.nextId ∧
    (armBody r s).capture.openRecord = s.capture.openRecord ∧ (armBody r s).delivery = s.delivery ∧
    (armBody r s).notices = s.notices ∧ (armBody r s).counters = s.counters ∧ (armBody r s).params = s.params ∧
    (armBody r s).manager.node = s.manager.node ∧ (armBody r s).manager.requests = s.manager.requests ∧
    (armBody r s).manager.deferred = s.manager.deferred ∧ (armBody r s).manager.resetHold = s.manager.resetHold ∧
    (armBody r s).intake = s.intake ∧ (armBody r s).deliveryPort = s.deliveryPort ∧ (armBody r s).clock = s.clock ∧
    (armBody r s).lines = s.lines ∧ (armBody r s).choices = s.choices ∧ (armBody r s).pending = s.pending := by
  and_intros <;> simp only [armBody] <;> (repeat' split) <;> simp

@[simp] theorem disarmEffects_keeps (s : State) :
    (disarmEffects s).sweeper = s.sweeper ∧ (disarmEffects s).tracker = s.tracker ∧
    (disarmEffects s).trigger.conditions = s.trigger.conditions ∧ (disarmEffects s).trigger.stage = s.trigger.stage ∧
    (disarmEffects s).trigger.pulse = s.trigger.pulse ∧ (disarmEffects s).memory.current = s.memory.current ∧
    (disarmEffects s).capture.haltCause = s.capture.haltCause ∧ (disarmEffects s).capture.nextId = s.capture.nextId ∧
    (disarmEffects s).delivery.windowA = s.delivery.windowA ∧
    (disarmEffects s).delivery.windowB = s.delivery.windowB ∧
    (disarmEffects s).delivery.current = s.delivery.current ∧
    (disarmEffects s).delivery.position = s.delivery.position ∧ (disarmEffects s).delivery.note = s.delivery.note ∧
    (disarmEffects s).counters.intakeBadFrames = s.counters.intakeBadFrames ∧
    (disarmEffects s).counters.deliveryBadFrames = s.counters.deliveryBadFrames ∧
    (disarmEffects s).counters.strayReplies = s.counters.strayReplies ∧
    (disarmEffects s).counters.lateReplies = s.counters.lateReplies ∧
    (disarmEffects s).counters.mismatchedReplies = s.counters.mismatchedReplies ∧
    (disarmEffects s).counters.replyTimeouts = s.counters.replyTimeouts ∧
    (disarmEffects s).counters.missedSweeps = s.counters.missedSweeps ∧
    (disarmEffects s).counters.ignoredStartEdges = s.counters.ignoredStartEdges ∧
    (disarmEffects s).counters.unstoredSweeps = s.counters.unstoredSweeps ∧
    (disarmEffects s).counters.historySpaceDrops = s.counters.historySpaceDrops ∧
    (disarmEffects s).counters.passbackDrops = s.counters.passbackDrops ∧
    (disarmEffects s).counters.forwardDrops = s.counters.forwardDrops ∧
    (disarmEffects s).counters.droppedRequests = s.counters.droppedRequests ∧ (disarmEffects s).params = s.params ∧
    (disarmEffects s).manager = s.manager ∧ (disarmEffects s).intake = s.intake ∧
    (disarmEffects s).deliveryPort = s.deliveryPort ∧ (disarmEffects s).clock = s.clock ∧
    (disarmEffects s).lines = s.lines ∧ (disarmEffects s).choices = s.choices ∧
    (disarmEffects s).pending = s.pending := by
  and_intros <;> simp only [disarmEffects] <;> (repeat' split) <;> simp

@[simp] theorem disarmBody_keeps (r : Request) (s : State) :
    (disarmBody r s).sweeper = s.sweeper ∧ (disarmBody r s).tracker = s.tracker ∧
    (disarmBody r s).trigger.conditions = s.trigger.conditions ∧ (disarmBody r s).trigger.stage = s.trigger.stage ∧
    (disarmBody r s).trigger.pulse = s.trigger.pulse ∧ (disarmBody r s).memory.current = s.memory.current ∧
    (disarmBody r s).capture.haltCause = s.capture.haltCause ∧ (disarmBody r s).capture.nextId = s.capture.nextId ∧
    (disarmBody r s).delivery.windowA = s.delivery.windowA ∧ (disarmBody r s).delivery.windowB = s.delivery.windowB ∧
    (disarmBody r s).delivery.current = s.delivery.current ∧
    (disarmBody r s).delivery.position = s.delivery.position ∧ (disarmBody r s).delivery.note = s.delivery.note ∧
    (disarmBody r s).counters.intakeBadFrames = s.counters.intakeBadFrames ∧
    (disarmBody r s).counters.deliveryBadFrames = s.counters.deliveryBadFrames ∧
    (disarmBody r s).counters.strayReplies = s.counters.strayReplies ∧
    (disarmBody r s).counters.lateReplies = s.counters.lateReplies ∧
    (disarmBody r s).counters.mismatchedReplies = s.counters.mismatchedReplies ∧
    (disarmBody r s).counters.replyTimeouts = s.counters.replyTimeouts ∧
    (disarmBody r s).counters.missedSweeps = s.counters.missedSweeps ∧
    (disarmBody r s).counters.ignoredStartEdges = s.counters.ignoredStartEdges ∧
    (disarmBody r s).counters.unstoredSweeps = s.counters.unstoredSweeps ∧
    (disarmBody r s).counters.historySpaceDrops = s.counters.historySpaceDrops ∧
    (disarmBody r s).counters.passbackDrops = s.counters.passbackDrops ∧
    (disarmBody r s).counters.forwardDrops = s.counters.forwardDrops ∧
    (disarmBody r s).counters.droppedRequests = s.counters.droppedRequests ∧ (disarmBody r s).params = s.params ∧
    (disarmBody r s).manager.node = s.manager.node ∧ (disarmBody r s).manager.requests = s.manager.requests ∧
    (disarmBody r s).manager.deferred = s.manager.deferred ∧
    (disarmBody r s).manager.resetHold = s.manager.resetHold ∧ (disarmBody r s).intake = s.intake ∧
    (disarmBody r s).deliveryPort = s.deliveryPort ∧ (disarmBody r s).clock = s.clock ∧
    (disarmBody r s).lines = s.lines ∧ (disarmBody r s).choices = s.choices ∧
    (disarmBody r s).pending = s.pending := by
  and_intros <;> simp only [disarmBody] <;> (repeat' split) <;> simp

@[simp] theorem clearHaltBody_keeps (r : Request) (s : State) :
    (clearHaltBody r s).sweeper = s.sweeper ∧ (clearHaltBody r s).tracker = s.tracker ∧
    (clearHaltBody r s).trigger = s.trigger ∧ (clearHaltBody r s).memory = s.memory ∧
    (clearHaltBody r s).capture.quota = s.capture.quota ∧ (clearHaltBody r s).capture.nextId = s.capture.nextId ∧
    (clearHaltBody r s).capture.openRecord = s.capture.openRecord ∧ (clearHaltBody r s).delivery = s.delivery ∧
    (clearHaltBody r s).notices = s.notices ∧ (clearHaltBody r s).counters = s.counters ∧
    (clearHaltBody r s).params = s.params ∧ (clearHaltBody r s).manager.node = s.manager.node ∧
    (clearHaltBody r s).manager.requests = s.manager.requests ∧
    (clearHaltBody r s).manager.deferred = s.manager.deferred ∧
    (clearHaltBody r s).manager.resetHold = s.manager.resetHold ∧ (clearHaltBody r s).intake = s.intake ∧
    (clearHaltBody r s).deliveryPort = s.deliveryPort ∧ (clearHaltBody r s).clock = s.clock ∧
    (clearHaltBody r s).lines = s.lines ∧ (clearHaltBody r s).choices = s.choices ∧
    (clearHaltBody r s).pending = s.pending := by
  and_intros <;> simp only [clearHaltBody] <;> (repeat' split) <;> simp

@[simp] theorem openWindowBody_keeps (r : Request) (s : State) :
    (openWindowBody r s).sweeper = s.sweeper ∧ (openWindowBody r s).tracker = s.tracker ∧
    (openWindowBody r s).trigger = s.trigger ∧ (openWindowBody r s).memory = s.memory ∧
    (openWindowBody r s).capture = s.capture ∧ (openWindowBody r s).delivery.queue = s.delivery.queue ∧
    (openWindowBody r s).delivery.current = s.delivery.current ∧
    (openWindowBody r s).delivery.position = s.delivery.position ∧
    (openWindowBody r s).delivery.note = s.delivery.note ∧ (openWindowBody r s).notices = s.notices ∧
    (openWindowBody r s).counters = s.counters ∧ (openWindowBody r s).params = s.params ∧
    (openWindowBody r s).manager.node = s.manager.node ∧ (openWindowBody r s).manager.requests = s.manager.requests ∧
    (openWindowBody r s).manager.deferred = s.manager.deferred ∧
    (openWindowBody r s).manager.resetHold = s.manager.resetHold ∧ (openWindowBody r s).intake = s.intake ∧
    (openWindowBody r s).deliveryPort = s.deliveryPort ∧ (openWindowBody r s).clock = s.clock ∧
    (openWindowBody r s).lines = s.lines ∧ (openWindowBody r s).choices = s.choices ∧
    (openWindowBody r s).pending = s.pending := by
  and_intros <;> simp only [openWindowBody] <;> (repeat' split) <;> simp

@[simp] theorem closeOpenWindow_keeps (w : WindowId) (s : State) :
    (closeOpenWindow w s).sweeper = s.sweeper ∧ (closeOpenWindow w s).tracker = s.tracker ∧
    (closeOpenWindow w s).trigger = s.trigger ∧ (closeOpenWindow w s).memory = s.memory ∧
    (closeOpenWindow w s).capture = s.capture ∧ (closeOpenWindow w s).delivery.queue = s.delivery.queue ∧
    (closeOpenWindow w s).delivery.position = s.delivery.position ∧
    (closeOpenWindow w s).delivery.note = s.delivery.note ∧
    (closeOpenWindow w s).counters.intakeBadFrames = s.counters.intakeBadFrames ∧
    (closeOpenWindow w s).counters.deliveryBadFrames = s.counters.deliveryBadFrames ∧
    (closeOpenWindow w s).counters.strayReplies = s.counters.strayReplies ∧
    (closeOpenWindow w s).counters.lateReplies = s.counters.lateReplies ∧
    (closeOpenWindow w s).counters.mismatchedReplies = s.counters.mismatchedReplies ∧
    (closeOpenWindow w s).counters.replyTimeouts = s.counters.replyTimeouts ∧
    (closeOpenWindow w s).counters.missedSweeps = s.counters.missedSweeps ∧
    (closeOpenWindow w s).counters.ignoredStartEdges = s.counters.ignoredStartEdges ∧
    (closeOpenWindow w s).counters.unstoredSweeps = s.counters.unstoredSweeps ∧
    (closeOpenWindow w s).counters.historySpaceDrops = s.counters.historySpaceDrops ∧
    (closeOpenWindow w s).counters.passbackDrops = s.counters.passbackDrops ∧
    (closeOpenWindow w s).counters.forwardDrops = s.counters.forwardDrops ∧
    (closeOpenWindow w s).counters.droppedRequests = s.counters.droppedRequests ∧
    (closeOpenWindow w s).params = s.params ∧ (closeOpenWindow w s).manager = s.manager ∧
    (closeOpenWindow w s).intake = s.intake ∧ (closeOpenWindow w s).deliveryPort.link = s.deliveryPort.link ∧
    (closeOpenWindow w s).deliveryPort.lane = s.deliveryPort.lane ∧
    (closeOpenWindow w s).deliveryPort.cycles = s.deliveryPort.cycles ∧
    (closeOpenWindow w s).deliveryPort.passback = s.deliveryPort.passback ∧ (closeOpenWindow w s).clock = s.clock ∧
    (closeOpenWindow w s).lines = s.lines ∧ (closeOpenWindow w s).choices = s.choices ∧
    (closeOpenWindow w s).pending = s.pending := by
  and_intros <;> simp only [closeOpenWindow] <;> (repeat' split) <;> simp

@[simp] theorem closeWindowBody_keeps (r : Request) (s : State) :
    (closeWindowBody r s).sweeper = s.sweeper ∧ (closeWindowBody r s).tracker = s.tracker ∧
    (closeWindowBody r s).trigger = s.trigger ∧ (closeWindowBody r s).memory = s.memory ∧
    (closeWindowBody r s).capture = s.capture ∧ (closeWindowBody r s).delivery.queue = s.delivery.queue ∧
    (closeWindowBody r s).delivery.position = s.delivery.position ∧
    (closeWindowBody r s).delivery.note = s.delivery.note ∧
    (closeWindowBody r s).counters.intakeBadFrames = s.counters.intakeBadFrames ∧
    (closeWindowBody r s).counters.deliveryBadFrames = s.counters.deliveryBadFrames ∧
    (closeWindowBody r s).counters.strayReplies = s.counters.strayReplies ∧
    (closeWindowBody r s).counters.lateReplies = s.counters.lateReplies ∧
    (closeWindowBody r s).counters.mismatchedReplies = s.counters.mismatchedReplies ∧
    (closeWindowBody r s).counters.replyTimeouts = s.counters.replyTimeouts ∧
    (closeWindowBody r s).counters.missedSweeps = s.counters.missedSweeps ∧
    (closeWindowBody r s).counters.ignoredStartEdges = s.counters.ignoredStartEdges ∧
    (closeWindowBody r s).counters.unstoredSweeps = s.counters.unstoredSweeps ∧
    (closeWindowBody r s).counters.historySpaceDrops = s.counters.historySpaceDrops ∧
    (closeWindowBody r s).counters.passbackDrops = s.counters.passbackDrops ∧
    (closeWindowBody r s).counters.forwardDrops = s.counters.forwardDrops ∧
    (closeWindowBody r s).counters.droppedRequests = s.counters.droppedRequests ∧
    (closeWindowBody r s).params = s.params ∧ (closeWindowBody r s).manager.node = s.manager.node ∧
    (closeWindowBody r s).manager.requests = s.manager.requests ∧
    (closeWindowBody r s).manager.deferred = s.manager.deferred ∧
    (closeWindowBody r s).manager.resetHold = s.manager.resetHold ∧ (closeWindowBody r s).intake = s.intake ∧
    (closeWindowBody r s).deliveryPort.link = s.deliveryPort.link ∧
    (closeWindowBody r s).deliveryPort.lane = s.deliveryPort.lane ∧
    (closeWindowBody r s).deliveryPort.cycles = s.deliveryPort.cycles ∧
    (closeWindowBody r s).deliveryPort.passback = s.deliveryPort.passback ∧ (closeWindowBody r s).clock = s.clock ∧
    (closeWindowBody r s).lines = s.lines ∧ (closeWindowBody r s).choices = s.choices ∧
    (closeWindowBody r s).pending = s.pending := by
  and_intros <;> simp only [closeWindowBody] <;> (repeat' split) <;> simp

@[simp] theorem discardRecordBody_keeps (r : Request) (s : State) :
    (discardRecordBody r s).sweeper = s.sweeper ∧ (discardRecordBody r s).tracker = s.tracker ∧
    (discardRecordBody r s).trigger = s.trigger ∧ (discardRecordBody r s).memory.history = s.memory.history ∧
    (discardRecordBody r s).memory.current = s.memory.current ∧
    (discardRecordBody r s).memory.reservation = s.memory.reservation ∧ (discardRecordBody r s).capture = s.capture ∧
    (discardRecordBody r s).delivery.windowA = s.delivery.windowA ∧
    (discardRecordBody r s).delivery.windowB = s.delivery.windowB ∧
    (discardRecordBody r s).delivery.current = s.delivery.current ∧ (discardRecordBody r s).notices = s.notices ∧
    (discardRecordBody r s).counters = s.counters ∧ (discardRecordBody r s).params = s.params ∧
    (discardRecordBody r s).manager.node = s.manager.node ∧
    (discardRecordBody r s).manager.requests = s.manager.requests ∧
    (discardRecordBody r s).manager.deferred = s.manager.deferred ∧
    (discardRecordBody r s).manager.resetHold = s.manager.resetHold ∧ (discardRecordBody r s).intake = s.intake ∧
    (discardRecordBody r s).deliveryPort = s.deliveryPort ∧ (discardRecordBody r s).clock = s.clock ∧
    (discardRecordBody r s).lines = s.lines ∧ (discardRecordBody r s).choices = s.choices ∧
    (discardRecordBody r s).pending = s.pending := by
  and_intros <;> simp only [discardRecordBody, discardById] <;> (repeat' split) <;> simp

end Sys2Proof.Machine
end

