-- ==== Sys2Proof/Laws/Events.lean ====
section
/-! SUPPORT. Frames: what the meanings of the events leave as it was; each lemma is one conjunction of projections, for simp. -/

namespace Sys2Proof.Machine

@[simp] theorem refuseArrival_keeps (r : Request) (status : Status) (s : State) :
    (refuseArrival r status s).sweeper = s.sweeper ∧ (refuseArrival r status s).tracker = s.tracker ∧
    (refuseArrival r status s).trigger = s.trigger ∧ (refuseArrival r status s).memory = s.memory ∧
    (refuseArrival r status s).capture = s.capture ∧ (refuseArrival r status s).delivery = s.delivery ∧
    (refuseArrival r status s).notices = s.notices ∧
    (refuseArrival r status s).counters.intakeBadFrames = s.counters.intakeBadFrames ∧
    (refuseArrival r status s).counters.deliveryBadFrames = s.counters.deliveryBadFrames ∧
    (refuseArrival r status s).counters.strayReplies = s.counters.strayReplies ∧
    (refuseArrival r status s).counters.lateReplies = s.counters.lateReplies ∧
    (refuseArrival r status s).counters.mismatchedReplies = s.counters.mismatchedReplies ∧
    (refuseArrival r status s).counters.replyTimeouts = s.counters.replyTimeouts ∧
    (refuseArrival r status s).counters.missedSweeps = s.counters.missedSweeps ∧
    (refuseArrival r status s).counters.ignoredStartEdges = s.counters.ignoredStartEdges ∧
    (refuseArrival r status s).counters.unstoredSweeps = s.counters.unstoredSweeps ∧
    (refuseArrival r status s).counters.historySpaceDrops = s.counters.historySpaceDrops ∧
    (refuseArrival r status s).counters.lostNotices = s.counters.lostNotices ∧
    (refuseArrival r status s).counters.passbackDrops = s.counters.passbackDrops ∧
    (refuseArrival r status s).counters.forwardDrops = s.counters.forwardDrops ∧
    (refuseArrival r status s).params = s.params ∧ (refuseArrival r status s).manager.node = s.manager.node ∧
    (refuseArrival r status s).manager.requests = s.manager.requests ∧
    (refuseArrival r status s).manager.deferred = s.manager.deferred ∧
    (refuseArrival r status s).manager.resetHold = s.manager.resetHold ∧
    (refuseArrival r status s).intake = s.intake ∧ (refuseArrival r status s).deliveryPort = s.deliveryPort ∧
    (refuseArrival r status s).clock = s.clock ∧ (refuseArrival r status s).lines = s.lines ∧
    (refuseArrival r status s).choices = s.choices ∧ (refuseArrival r status s).pending = s.pending := by
  and_intros <;> simp only [refuseArrival] <;> (repeat' split) <;> simp

@[simp] theorem acceptOwn_keeps (r : Request) (s : State) :
    (acceptOwn r s).sweeper = s.sweeper ∧ (acceptOwn r s).tracker = s.tracker ∧ (acceptOwn r s).trigger = s.trigger ∧
    (acceptOwn r s).memory = s.memory ∧ (acceptOwn r s).capture = s.capture ∧ (acceptOwn r s).delivery = s.delivery ∧
    (acceptOwn r s).notices = s.notices ∧ (acceptOwn r s).counters.intakeBadFrames = s.counters.intakeBadFrames ∧
    (acceptOwn r s).counters.deliveryBadFrames = s.counters.deliveryBadFrames ∧
    (acceptOwn r s).counters.strayReplies = s.counters.strayReplies ∧
    (acceptOwn r s).counters.lateReplies = s.counters.lateReplies ∧
    (acceptOwn r s).counters.mismatchedReplies = s.counters.mismatchedReplies ∧
    (acceptOwn r s).counters.replyTimeouts = s.counters.replyTimeouts ∧
    (acceptOwn r s).counters.missedSweeps = s.counters.missedSweeps ∧
    (acceptOwn r s).counters.ignoredStartEdges = s.counters.ignoredStartEdges ∧
    (acceptOwn r s).counters.unstoredSweeps = s.counters.unstoredSweeps ∧
    (acceptOwn r s).counters.historySpaceDrops = s.counters.historySpaceDrops ∧
    (acceptOwn r s).counters.lostNotices = s.counters.lostNotices ∧
    (acceptOwn r s).counters.passbackDrops = s.counters.passbackDrops ∧
    (acceptOwn r s).counters.forwardDrops = s.counters.forwardDrops ∧ (acceptOwn r s).params = s.params ∧
    (acceptOwn r s).manager.node = s.manager.node ∧ (acceptOwn r s).manager.deferred = s.manager.deferred ∧
    (acceptOwn r s).manager.resetHold = s.manager.resetHold ∧ (acceptOwn r s).intake = s.intake ∧
    (acceptOwn r s).deliveryPort = s.deliveryPort ∧ (acceptOwn r s).clock = s.clock ∧
    (acceptOwn r s).lines = s.lines ∧ (acceptOwn r s).choices = s.choices ∧ (acceptOwn r s).pending = s.pending := by
  and_intros <;> simp only [acceptOwn] <;> (repeat' split) <;> simp

@[simp] theorem classifyArrival_keeps (r : Request) (s : State) :
    (classifyArrival r s).sweeper = s.sweeper ∧ (classifyArrival r s).tracker = s.tracker ∧
    (classifyArrival r s).trigger = s.trigger ∧ (classifyArrival r s).memory = s.memory ∧
    (classifyArrival r s).capture = s.capture ∧ (classifyArrival r s).delivery = s.delivery ∧
    (classifyArrival r s).notices = s.notices ∧
    (classifyArrival r s).counters.intakeBadFrames = s.counters.intakeBadFrames ∧
    (classifyArrival r s).counters.deliveryBadFrames = s.counters.deliveryBadFrames ∧
    (classifyArrival r s).counters.strayReplies = s.counters.strayReplies ∧
    (classifyArrival r s).counters.lateReplies = s.counters.lateReplies ∧
    (classifyArrival r s).counters.mismatchedReplies = s.counters.mismatchedReplies ∧
    (classifyArrival r s).counters.replyTimeouts = s.counters.replyTimeouts ∧
    (classifyArrival r s).counters.missedSweeps = s.counters.missedSweeps ∧
    (classifyArrival r s).counters.ignoredStartEdges = s.counters.ignoredStartEdges ∧
    (classifyArrival r s).counters.unstoredSweeps = s.counters.unstoredSweeps ∧
    (classifyArrival r s).counters.historySpaceDrops = s.counters.historySpaceDrops ∧
    (classifyArrival r s).counters.lostNotices = s.counters.lostNotices ∧
    (classifyArrival r s).counters.passbackDrops = s.counters.passbackDrops ∧
    (classifyArrival r s).counters.forwardDrops = s.counters.forwardDrops ∧ (classifyArrival r s).params = s.params ∧
    (classifyArrival r s).manager.node = s.manager.node ∧
    (classifyArrival r s).manager.deferred = s.manager.deferred ∧
    (classifyArrival r s).manager.resetHold = s.manager.resetHold ∧
    (classifyArrival r s).intake.link = s.intake.link ∧ (classifyArrival r s).intake.lane = s.intake.lane ∧
    (classifyArrival r s).intake.cycles = s.intake.cycles ∧ (classifyArrival r s).intake.turn = s.intake.turn ∧
    (classifyArrival r s).deliveryPort = s.deliveryPort ∧ (classifyArrival r s).clock = s.clock ∧
    (classifyArrival r s).lines = s.lines ∧ (classifyArrival r s).choices = s.choices ∧
    (classifyArrival r s).pending = s.pending := by
  and_intros <;> simp only [classifyArrival, forwardArrival] <;> (repeat' split) <;> simp

@[simp] theorem receiveRequest_keeps (r : Request) (s : State) :
    (receiveRequest r s).sweeper.program = s.sweeper.program ∧
    (receiveRequest r s).sweeper.fixedS = s.sweeper.fixedS ∧
    (receiveRequest r s).sweeper.burstCount = s.sweeper.burstCount ∧
    (receiveRequest r s).sweeper.sweepNumber = s.sweeper.sweepNumber ∧
    (receiveRequest r s).sweeper.gapPending = s.sweeper.gapPending ∧
    (receiveRequest r s).sweeper.startLevel = s.sweeper.startLevel ∧
    (receiveRequest r s).tracker.lastTag = s.tracker.lastTag ∧
    (receiveRequest r s).tracker.spacing = s.tracker.spacing ∧
    (receiveRequest r s).counters.strayReplies = s.counters.strayReplies ∧
    (receiveRequest r s).counters.lateReplies = s.counters.lateReplies ∧
    (receiveRequest r s).counters.mismatchedReplies = s.counters.mismatchedReplies ∧
    (receiveRequest r s).counters.replyTimeouts = s.counters.replyTimeouts ∧
    (receiveRequest r s).counters.missedSweeps = s.counters.missedSweeps ∧
    (receiveRequest r s).counters.ignoredStartEdges = s.counters.ignoredStartEdges ∧
    (receiveRequest r s).counters.unstoredSweeps = s.counters.unstoredSweeps ∧
    (receiveRequest r s).counters.historySpaceDrops = s.counters.historySpaceDrops ∧
    (receiveRequest r s).params = s.params ∧ (receiveRequest r s).manager.node = s.manager.node ∧
    (receiveRequest r s).manager.resetHold = s.manager.resetHold ∧
    (receiveRequest r s).intake.cycles = s.intake.cycles ∧
    (receiveRequest r s).deliveryPort.cycles = s.deliveryPort.cycles ∧ (receiveRequest r s).clock = s.clock ∧
    (receiveRequest r s).lines = s.lines ∧ (receiveRequest r s).choices = s.choices ∧
    (receiveRequest r s).pending = s.pending := by
  and_intros <;> simp only [receiveRequest, receiveGoodFrame] <;> (repeat' split) <;> simp

@[simp] theorem strayReply_keeps (s : State) :
    (strayReply s).sweeper = s.sweeper ∧ (strayReply s).tracker = s.tracker ∧ (strayReply s).trigger = s.trigger ∧
    (strayReply s).memory = s.memory ∧ (strayReply s).capture = s.capture ∧ (strayReply s).delivery = s.delivery ∧
    (strayReply s).notices = s.notices ∧ (strayReply s).counters.intakeBadFrames = s.counters.intakeBadFrames ∧
    (strayReply s).counters.deliveryBadFrames = s.counters.deliveryBadFrames ∧
    (strayReply s).counters.lateReplies = s.counters.lateReplies ∧
    (strayReply s).counters.mismatchedReplies = s.counters.mismatchedReplies ∧
    (strayReply s).counters.replyTimeouts = s.counters.replyTimeouts ∧
    (strayReply s).counters.missedSweeps = s.counters.missedSweeps ∧
    (strayReply s).counters.ignoredStartEdges = s.counters.ignoredStartEdges ∧
    (strayReply s).counters.unstoredSweeps = s.counters.unstoredSweeps ∧
    (strayReply s).counters.historySpaceDrops = s.counters.historySpaceDrops ∧
    (strayReply s).counters.lostNotices = s.counters.lostNotices ∧
    (strayReply s).counters.passbackDrops = s.counters.passbackDrops ∧
    (strayReply s).counters.forwardDrops = s.counters.forwardDrops ∧
    (strayReply s).counters.droppedRequests = s.counters.droppedRequests ∧ (strayReply s).params = s.params ∧
    (strayReply s).manager = s.manager ∧ (strayReply s).intake = s.intake ∧
    (strayReply s).deliveryPort = s.deliveryPort ∧ (strayReply s).clock = s.clock ∧ (strayReply s).lines = s.lines ∧
    (strayReply s).choices = s.choices ∧ (strayReply s).pending = s.pending := by
  and_intros <;> rfl

@[simp] theorem lateReply_keeps (t : Nat) (s : State) :
    (lateReply t s).sweeper = s.sweeper ∧ (lateReply t s).trigger = s.trigger ∧ (lateReply t s).memory = s.memory ∧
    (lateReply t s).capture = s.capture ∧ (lateReply t s).delivery = s.delivery ∧
    (lateReply t s).notices = s.notices ∧ (lateReply t s).counters.intakeBadFrames = s.counters.intakeBadFrames ∧
    (lateReply t s).counters.deliveryBadFrames = s.counters.deliveryBadFrames ∧
    (lateReply t s).counters.strayReplies = s.counters.strayReplies ∧
    (lateReply t s).counters.mismatchedReplies = s.counters.mismatchedReplies ∧
    (lateReply t s).counters.replyTimeouts = s.counters.replyTimeouts ∧
    (lateReply t s).counters.missedSweeps = s.counters.missedSweeps ∧
    (lateReply t s).counters.ignoredStartEdges = s.counters.ignoredStartEdges ∧
    (lateReply t s).counters.unstoredSweeps = s.counters.unstoredSweeps ∧
    (lateReply t s).counters.historySpaceDrops = s.counters.historySpaceDrops ∧
    (lateReply t s).counters.lostNotices = s.counters.lostNotices ∧
    (lateReply t s).counters.passbackDrops = s.counters.passbackDrops ∧
    (lateReply t s).counters.forwardDrops = s.counters.forwardDrops ∧
    (lateReply t s).counters.droppedRequests = s.counters.droppedRequests ∧ (lateReply t s).params = s.params ∧
    (lateReply t s).manager = s.manager ∧ (lateReply t s).intake = s.intake ∧
    (lateReply t s).deliveryPort = s.deliveryPort ∧ (lateReply t s).clock = s.clock ∧
    (lateReply t s).lines = s.lines ∧ (lateReply t s).choices = s.choices ∧ (lateReply t s).pending = s.pending := by
  and_intros <;> simp only [lateReply] <;> simp

@[simp] theorem timedReply_keeps (f : SampleFrame) (e : InFlight) (s : State) :
    (timedReply f e s).sweeper.program = s.sweeper.program ∧ (timedReply f e s).sweeper.fixedS = s.sweeper.fixedS ∧
    (timedReply f e s).sweeper.burstCount = s.sweeper.burstCount ∧
    (timedReply f e s).sweeper.sweepNumber = s.sweeper.sweepNumber ∧
    (timedReply f e s).sweeper.gapPending = s.sweeper.gapPending ∧
    (timedReply f e s).sweeper.startLevel = s.sweeper.startLevel ∧
    (timedReply f e s).delivery.windowA = s.delivery.windowA ∧
    (timedReply f e s).delivery.windowB = s.delivery.windowB ∧
    (timedReply f e s).delivery.current = s.delivery.current ∧
    (timedReply f e s).delivery.position = s.delivery.position ∧ (timedReply f e s).delivery.note = s.delivery.note ∧
    (timedReply f e s).counters.intakeBadFrames = s.counters.intakeBadFrames ∧
    (timedReply f e s).counters.deliveryBadFrames = s.counters.deliveryBadFrames ∧
    (timedReply f e s).counters.strayReplies = s.counters.strayReplies ∧
    (timedReply f e s).counters.lateReplies = s.counters.lateReplies ∧
    (timedReply f e s).counters.replyTimeouts = s.counters.replyTimeouts ∧
    (timedReply f e s).counters.missedSweeps = s.counters.missedSweeps ∧
    (timedReply f e s).counters.ignoredStartEdges = s.counters.ignoredStartEdges ∧
    (timedReply f e s).counters.unstoredSweeps = s.counters.unstoredSweeps ∧
    (timedReply f e s).counters.historySpaceDrops = s.counters.historySpaceDrops ∧
    (timedReply f e s).counters.passbackDrops = s.counters.passbackDrops ∧
    (timedReply f e s).counters.forwardDrops = s.counters.forwardDrops ∧
    (timedReply f e s).counters.droppedRequests = s.counters.droppedRequests ∧ (timedReply f e s).params = s.params ∧
    (timedReply f e s).manager.node = s.manager.node ∧ (timedReply f e s).manager.requests = s.manager.requests ∧
    (timedReply f e s).manager.resetHold = s.manager.resetHold ∧ (timedReply f e s).intake = s.intake ∧
    (timedReply f e s).deliveryPort = s.deliveryPort ∧ (timedReply f e s).clock = s.clock ∧
    (timedReply f e s).lines = s.lines ∧ (timedReply f e s).choices = s.choices ∧
    (timedReply f e s).pending = s.pending := by
  and_intros <;> simp only [timedReply] <;> (repeat' split) <;> simp

@[simp] theorem matchReply_keeps (f : SampleFrame) (s : State) :
    (matchReply f s).sweeper.program = s.sweeper.program ∧ (matchReply f s).sweeper.fixedS = s.sweeper.fixedS ∧
    (matchReply f s).sweeper.burstCount = s.sweeper.burstCount ∧
    (matchReply f s).sweeper.sweepNumber = s.sweeper.sweepNumber ∧
    (matchReply f s).sweeper.gapPending = s.sweeper.gapPending ∧
    (matchReply f s).sweeper.startLevel = s.sweeper.startLevel ∧
    (matchReply f s).delivery.windowA = s.delivery.windowA ∧ (matchReply f s).delivery.windowB = s.delivery.windowB ∧
    (matchReply f s).delivery.current = s.delivery.current ∧
    (matchReply f s).delivery.position = s.delivery.position ∧ (matchReply f s).delivery.note = s.delivery.note ∧
    (matchReply f s).counters.intakeBadFrames = s.counters.intakeBadFrames ∧
    (matchReply f s).counters.deliveryBadFrames = s.counters.deliveryBadFrames ∧
    (matchReply f s).counters.replyTimeouts = s.counters.replyTimeouts ∧
    (matchReply f s).counters.missedSweeps = s.counters.missedSweeps ∧
    (matchReply f s).counters.ignoredStartEdges = s.counters.ignoredStartEdges ∧
    (matchReply f s).counters.unstoredSweeps = s.counters.unstoredSweeps ∧
    (matchReply f s).counters.historySpaceDrops = s.counters.historySpaceDrops ∧
    (matchReply f s).counters.passbackDrops = s.counters.passbackDrops ∧
    (matchReply f s).counters.forwardDrops = s.counters.forwardDrops ∧
    (matchReply f s).counters.droppedRequests = s.counters.droppedRequests ∧ (matchReply f s).params = s.params ∧
    (matchReply f s).manager.node = s.manager.node ∧ (matchReply f s).manager.requests = s.manager.requests ∧
    (matchReply f s).manager.resetHold = s.manager.resetHold ∧ (matchReply f s).intake = s.intake ∧
    (matchReply f s).deliveryPort = s.deliveryPort ∧ (matchReply f s).clock = s.clock ∧
    (matchReply f s).lines = s.lines ∧ (matchReply f s).choices = s.choices ∧
    (matchReply f s).pending = s.pending := by
  and_intros <;> simp only [matchReply] <;> (repeat' split) <;> simp

@[simp] theorem receiveSample_keeps (f : SampleFrame) (s : State) :
    (receiveSample f s).sweeper.program = s.sweeper.program ∧ (receiveSample f s).sweeper.fixedS = s.sweeper.fixedS ∧
    (receiveSample f s).sweeper.burstCount = s.sweeper.burstCount ∧
    (receiveSample f s).sweeper.sweepNumber = s.sweeper.sweepNumber ∧
    (receiveSample f s).sweeper.gapPending = s.sweeper.gapPending ∧
    (receiveSample f s).sweeper.startLevel = s.sweeper.startLevel ∧
    (receiveSample f s).counters.intakeBadFrames = s.counters.intakeBadFrames ∧
    (receiveSample f s).counters.deliveryBadFrames = s.counters.deliveryBadFrames ∧
    (receiveSample f s).counters.replyTimeouts = s.counters.replyTimeouts ∧
    (receiveSample f s).counters.missedSweeps = s.counters.missedSweeps ∧
    (receiveSample f s).counters.ignoredStartEdges = s.counters.ignoredStartEdges ∧
    (receiveSample f s).counters.unstoredSweeps = s.counters.unstoredSweeps ∧
    (receiveSample f s).counters.historySpaceDrops = s.counters.historySpaceDrops ∧
    (receiveSample f s).counters.droppedRequests = s.counters.droppedRequests ∧
    (receiveSample f s).params = s.params ∧ (receiveSample f s).manager.node = s.manager.node ∧
    (receiveSample f s).manager.requests = s.manager.requests ∧
    (receiveSample f s).manager.resetHold = s.manager.resetHold ∧
    (receiveSample f s).intake.cycles = s.intake.cycles ∧
    (receiveSample f s).deliveryPort.cycles = s.deliveryPort.cycles ∧ (receiveSample f s).clock = s.clock ∧
    (receiveSample f s).lines = s.lines ∧ (receiveSample f s).choices = s.choices ∧
    (receiveSample f s).pending = s.pending := by
  and_intros <;> simp only [receiveSample, receiveGoodFrame] <;> (repeat' split) <;> simp

@[simp] theorem joinPassback_keeps (f : RawFrame) (s : State) :
    (joinPassback f s).sweeper = s.sweeper ∧ (joinPassback f s).tracker = s.tracker ∧
    (joinPassback f s).trigger = s.trigger ∧ (joinPassback f s).memory = s.memory ∧
    (joinPassback f s).capture = s.capture ∧ (joinPassback f s).delivery = s.delivery ∧
    (joinPassback f s).notices = s.notices ∧
    (joinPassback f s).counters.intakeBadFrames = s.counters.intakeBadFrames ∧
    (joinPassback f s).counters.deliveryBadFrames = s.counters.deliveryBadFrames ∧
    (joinPassback f s).counters.strayReplies = s.counters.strayReplies ∧
    (joinPassback f s).counters.lateReplies = s.counters.lateReplies ∧
    (joinPassback f s).counters.mismatchedReplies = s.counters.mismatchedReplies ∧
    (joinPassback f s).counters.replyTimeouts = s.counters.replyTimeouts ∧
    (joinPassback f s).counters.missedSweeps = s.counters.missedSweeps ∧
    (joinPassback f s).counters.ignoredStartEdges = s.counters.ignoredStartEdges ∧
    (joinPassback f s).counters.unstoredSweeps = s.counters.unstoredSweeps ∧
    (joinPassback f s).counters.historySpaceDrops = s.counters.historySpaceDrops ∧
    (joinPassback f s).counters.lostNotices = s.counters.lostNotices ∧
    (joinPassback f s).counters.forwardDrops = s.counters.forwardDrops ∧
    (joinPassback f s).counters.droppedRequests = s.counters.droppedRequests ∧ (joinPassback f s).params = s.params ∧
    (joinPassback f s).manager = s.manager ∧ (joinPassback f s).intake = s.intake ∧
    (joinPassback f s).deliveryPort.link = s.deliveryPort.link ∧
    (joinPassback f s).deliveryPort.lane = s.deliveryPort.lane ∧
    (joinPassback f s).deliveryPort.cycles = s.deliveryPort.cycles ∧
    (joinPassback f s).deliveryPort.turn = s.deliveryPort.turn ∧ (joinPassback f s).clock = s.clock ∧
    (joinPassback f s).lines = s.lines ∧ (joinPassback f s).choices = s.choices ∧
    (joinPassback f s).pending = s.pending := by
  and_intros <;> simp only [joinPassback] <;> (repeat' split) <;> simp

@[simp] theorem receiveIntakeFrame_keeps (f : RawFrame) (s : State) :
    (receiveIntakeFrame f s).sweeper.program = s.sweeper.program ∧
    (receiveIntakeFrame f s).sweeper.fixedS = s.sweeper.fixedS ∧
    (receiveIntakeFrame f s).sweeper.burstCount = s.sweeper.burstCount ∧
    (receiveIntakeFrame f s).sweeper.sweepNumber = s.sweeper.sweepNumber ∧
    (receiveIntakeFrame f s).sweeper.gapPending = s.sweeper.gapPending ∧
    (receiveIntakeFrame f s).sweeper.startLevel = s.sweeper.startLevel ∧
    (receiveIntakeFrame f s).counters.replyTimeouts = s.counters.replyTimeouts ∧
    (receiveIntakeFrame f s).counters.missedSweeps = s.counters.missedSweeps ∧
    (receiveIntakeFrame f s).counters.ignoredStartEdges = s.counters.ignoredStartEdges ∧
    (receiveIntakeFrame f s).counters.unstoredSweeps = s.counters.unstoredSweeps ∧
    (receiveIntakeFrame f s).counters.historySpaceDrops = s.counters.historySpaceDrops ∧
    (receiveIntakeFrame f s).counters.droppedRequests = s.counters.droppedRequests ∧
    (receiveIntakeFrame f s).params = s.params ∧ (receiveIntakeFrame f s).manager.node = s.manager.node ∧
    (receiveIntakeFrame f s).manager.requests = s.manager.requests ∧
    (receiveIntakeFrame f s).manager.resetHold = s.manager.resetHold ∧
    (receiveIntakeFrame f s).intake.cycles = s.intake.cycles ∧
    (receiveIntakeFrame f s).deliveryPort.cycles = s.deliveryPort.cycles ∧ (receiveIntakeFrame f s).clock = s.clock ∧
    (receiveIntakeFrame f s).lines = s.lines ∧ (receiveIntakeFrame f s).choices = s.choices ∧
    (receiveIntakeFrame f s).pending = s.pending := by
  and_intros <;> simp only [receiveIntakeFrame, receiveGoodFrame] <;> (repeat' split) <;> simp

@[simp] theorem frameWhileAligning_keeps (p : Port) (good : Bool) (s : State) :
    (frameWhileAligning p good s).sweeper.program = s.sweeper.program ∧
    (frameWhileAligning p good s).sweeper.fixedS = s.sweeper.fixedS ∧
    (frameWhileAligning p good s).sweeper.burstCount = s.sweeper.burstCount ∧
    (frameWhileAligning p good s).sweeper.sweepNumber = s.sweeper.sweepNumber ∧
    (frameWhileAligning p good s).sweeper.gapPending = s.sweeper.gapPending ∧
    (frameWhileAligning p good s).sweeper.startLevel = s.sweeper.startLevel ∧
    (frameWhileAligning p good s).tracker.lastTag = s.tracker.lastTag ∧
    (frameWhileAligning p good s).tracker.spacing = s.tracker.spacing ∧
    (frameWhileAligning p good s).counters.intakeBadFrames = s.counters.intakeBadFrames ∧
    (frameWhileAligning p good s).counters.deliveryBadFrames = s.counters.deliveryBadFrames ∧
    (frameWhileAligning p good s).counters.strayReplies = s.counters.strayReplies ∧
    (frameWhileAligning p good s).counters.lateReplies = s.counters.lateReplies ∧
    (frameWhileAligning p good s).counters.mismatchedReplies = s.counters.mismatchedReplies ∧
    (frameWhileAligning p good s).counters.replyTimeouts = s.counters.replyTimeouts ∧
    (frameWhileAligning p good s).counters.missedSweeps = s.counters.missedSweeps ∧
    (frameWhileAligning p good s).counters.ignoredStartEdges = s.counters.ignoredStartEdges ∧
    (frameWhileAligning p good s).counters.unstoredSweeps = s.counters.unstoredSweeps ∧
    (frameWhileAligning p good s).counters.historySpaceDrops = s.counters.historySpaceDrops ∧
    (frameWhileAligning p good s).counters.droppedRequests = s.counters.droppedRequests ∧
    (frameWhileAligning p good s).params = s.params ∧ (frameWhileAligning p good s).manager.node = s.manager.node ∧
    (frameWhileAligning p good s).manager.requests = s.manager.requests ∧
    (frameWhileAligning p good s).manager.resetHold = s.manager.resetHold ∧
    (frameWhileAligning p good s).intake.cycles = s.intake.cycles ∧
    (frameWhileAligning p good s).deliveryPort.cycles = s.deliveryPort.cycles ∧
    (frameWhileAligning p good s).clock = s.clock ∧ (frameWhileAligning p good s).lines = s.lines ∧
    (frameWhileAligning p good s).choices = s.choices ∧ (frameWhileAligning p good s).pending = s.pending := by
  and_intros <;> simp only [frameWhileAligning] <;> (repeat' split) <;> simp

@[simp] theorem missSweep_keeps (s : State) :
    (missSweep s).sweeper.program = s.sweeper.program ∧ (missSweep s).sweeper.fixedS = s.sweeper.fixedS ∧
    (missSweep s).sweeper.run = s.sweeper.run ∧ (missSweep s).sweeper.pacer = s.sweeper.pacer ∧
    (missSweep s).sweeper.burstCount = s.sweeper.burstCount ∧ (missSweep s).sweeper.endCause = s.sweeper.endCause ∧
    (missSweep s).sweeper.sweepNumber = s.sweeper.sweepNumber ∧ (missSweep s).sweeper.sweep = s.sweeper.sweep ∧
    (missSweep s).sweeper.startLevel = s.sweeper.startLevel ∧ (missSweep s).tracker = s.tracker ∧
    (missSweep s).trigger = s.trigger ∧ (missSweep s).memory = s.memory ∧ (missSweep s).capture = s.capture ∧
    (missSweep s).delivery = s.delivery ∧ (missSweep s).notices = s.notices ∧
    (missSweep s).counters.intakeBadFrames = s.counters.intakeBadFrames ∧
    (missSweep s).counters.deliveryBadFrames = s.counters.deliveryBadFrames ∧
    (missSweep s).counters.strayReplies = s.counters.strayReplies ∧
    (missSweep s).counters.lateReplies = s.counters.lateReplies ∧
    (missSweep s).counters.mismatchedReplies = s.counters.mismatchedReplies ∧
    (missSweep s).counters.replyTimeouts = s.counters.replyTimeouts ∧
    (missSweep s).counters.ignoredStartEdges = s.counters.ignoredStartEdges ∧
    (missSweep s).counters.unstoredSweeps = s.counters.unstoredSweeps ∧
    (missSweep s).counters.historySpaceDrops = s.counters.historySpaceDrops ∧
    (missSweep s).counters.lostNotices = s.counters.lostNotices ∧
    (missSweep s).counters.passbackDrops = s.counters.passbackDrops ∧
    (missSweep s).counters.forwardDrops = s.counters.forwardDrops ∧
    (missSweep s).counters.droppedRequests = s.counters.droppedRequests ∧ (missSweep s).params = s.params ∧
    (missSweep s).manager = s.manager ∧ (missSweep s).intake = s.intake ∧
    (missSweep s).deliveryPort = s.deliveryPort ∧ (missSweep s).clock = s.clock ∧ (missSweep s).lines = s.lines ∧
    (missSweep s).choices = s.choices ∧ (missSweep s).pending = s.pending := by
  and_intros <;> rfl

@[simp] theorem pacerEvent_keeps (s : State) :
    (pacerEvent s).sweeper.program = s.sweeper.program ∧ (pacerEvent s).sweeper.fixedS = s.sweeper.fixedS ∧
    (pacerEvent s).sweeper.burstCount = s.sweeper.burstCount ∧
    (pacerEvent s).sweeper.startLevel = s.sweeper.startLevel ∧ (pacerEvent s).delivery.windowA = s.delivery.windowA ∧
    (pacerEvent s).delivery.windowB = s.delivery.windowB ∧ (pacerEvent s).delivery.current = s.delivery.current ∧
    (pacerEvent s).delivery.position = s.delivery.position ∧ (pacerEvent s).delivery.note = s.delivery.note ∧
    (pacerEvent s).counters.intakeBadFrames = s.counters.intakeBadFrames ∧
    (pacerEvent s).counters.deliveryBadFrames = s.counters.deliveryBadFrames ∧
    (pacerEvent s).counters.strayReplies = s.counters.strayReplies ∧
    (pacerEvent s).counters.lateReplies = s.counters.lateReplies ∧
    (pacerEvent s).counters.mismatchedReplies = s.counters.mismatchedReplies ∧
    (pacerEvent s).counters.replyTimeouts = s.counters.replyTimeouts ∧
    (pacerEvent s).counters.ignoredStartEdges = s.counters.ignoredStartEdges ∧
    (pacerEvent s).counters.passbackDrops = s.counters.passbackDrops ∧
    (pacerEvent s).counters.forwardDrops = s.counters.forwardDrops ∧
    (pacerEvent s).counters.droppedRequests = s.counters.droppedRequests ∧ (pacerEvent s).params = s.params ∧
    (pacerEvent s).manager.node = s.manager.node ∧ (pacerEvent s).manager.requests = s.manager.requests ∧
    (pacerEvent s).manager.resetHold = s.manager.resetHold ∧ (pacerEvent s).intake = s.intake ∧
    (pacerEvent s).deliveryPort = s.deliveryPort ∧ (pacerEvent s).clock = s.clock ∧ (pacerEvent s).lines = s.lines ∧
    (pacerEvent s).choices = s.choices ∧ (pacerEvent s).pending = s.pending := by
  and_intros <;> simp only [pacerEvent] <;> (repeat' split) <;> simp

@[simp] theorem pacerExpires_keeps (s : State) :
    (pacerExpires s).sweeper.program = s.sweeper.program ∧ (pacerExpires s).sweeper.fixedS = s.sweeper.fixedS ∧
    (pacerExpires s).sweeper.startLevel = s.sweeper.startLevel ∧
    (pacerExpires s).delivery.windowA = s.delivery.windowA ∧ (pacerExpires s).delivery.windowB = s.delivery.windowB ∧
    (pacerExpires s).delivery.current = s.delivery.current ∧
    (pacerExpires s).delivery.position = s.delivery.position ∧ (pacerExpires s).delivery.note = s.delivery.note ∧
    (pacerExpires s).counters.intakeBadFrames = s.counters.intakeBadFrames ∧
    (pacerExpires s).counters.deliveryBadFrames = s.counters.deliveryBadFrames ∧
    (pacerExpires s).counters.strayReplies = s.counters.strayReplies ∧
    (pacerExpires s).counters.lateReplies = s.counters.lateReplies ∧
    (pacerExpires s).counters.mismatchedReplies = s.counters.mismatchedReplies ∧
    (pacerExpires s).counters.replyTimeouts = s.counters.replyTimeouts ∧
    (pacerExpires s).counters.ignoredStartEdges = s.counters.ignoredStartEdges ∧
    (pacerExpires s).counters.passbackDrops = s.counters.passbackDrops ∧
    (pacerExpires s).counters.forwardDrops = s.counters.forwardDrops ∧
    (pacerExpires s).counters.droppedRequests = s.counters.droppedRequests ∧ (pacerExpires s).params = s.params ∧
    (pacerExpires s).manager.node = s.manager.node ∧ (pacerExpires s).manager.requests = s.manager.requests ∧
    (pacerExpires s).manager.resetHold = s.manager.resetHold ∧ (pacerExpires s).intake = s.intake ∧
    (pacerExpires s).deliveryPort = s.deliveryPort ∧ (pacerExpires s).clock = s.clock ∧
    (pacerExpires s).lines = s.lines ∧ (pacerExpires s).choices = s.choices ∧
    (pacerExpires s).pending = s.pending := by
  and_intros <;> simp only [pacerExpires] <;> (repeat' split) <;> simp

@[simp] theorem startEdgeSeen_keeps (s : State) :
    (startEdgeSeen s).sweeper.program = s.sweeper.program ∧ (startEdgeSeen s).sweeper.fixedS = s.sweeper.fixedS ∧
    (startEdgeSeen s).sweeper.startLevel = s.sweeper.startLevel ∧
    (startEdgeSeen s).delivery.windowA = s.delivery.windowA ∧
    (startEdgeSeen s).delivery.windowB = s.delivery.windowB ∧
    (startEdgeSeen s).delivery.current = s.delivery.current ∧
    (startEdgeSeen s).delivery.position = s.delivery.position ∧ (startEdgeSeen s).delivery.note = s.delivery.note ∧
    (startEdgeSeen s).counters.intakeBadFrames = s.counters.intakeBadFrames ∧
    (startEdgeSeen s).counters.deliveryBadFrames = s.counters.deliveryBadFrames ∧
    (startEdgeSeen s).counters.strayReplies = s.counters.strayReplies ∧
    (startEdgeSeen s).counters.lateReplies = s.counters.lateReplies ∧
    (startEdgeSeen s).counters.mismatchedReplies = s.counters.mismatchedReplies ∧
    (startEdgeSeen s).counters.replyTimeouts = s.counters.replyTimeouts ∧
    (startEdgeSeen s).counters.missedSweeps = s.counters.missedSweeps ∧
    (startEdgeSeen s).counters.passbackDrops = s.counters.passbackDrops ∧
    (startEdgeSeen s).counters.forwardDrops = s.counters.forwardDrops ∧
    (startEdgeSeen s).counters.droppedRequests = s.counters.droppedRequests ∧ (startEdgeSeen s).params = s.params ∧
    (startEdgeSeen s).manager.node = s.manager.node ∧ (startEdgeSeen s).manager.requests = s.manager.requests ∧
    (startEdgeSeen s).manager.resetHold = s.manager.resetHold ∧ (startEdgeSeen s).intake = s.intake ∧
    (startEdgeSeen s).deliveryPort = s.deliveryPort ∧ (startEdgeSeen s).clock = s.clock ∧
    (startEdgeSeen s).lines = s.lines ∧ (startEdgeSeen s).choices = s.choices ∧
    (startEdgeSeen s).pending = s.pending := by
  and_intros <;> simp only [startEdgeSeen] <;> (repeat' split) <;> simp

@[simp] theorem startLineLevel_keeps (level : Bool) (s : State) :
    (startLineLevel level s).sweeper.program = s.sweeper.program ∧
    (startLineLevel level s).sweeper.fixedS = s.sweeper.fixedS ∧
    (startLineLevel level s).delivery.windowA = s.delivery.windowA ∧
    (startLineLevel level s).delivery.windowB = s.delivery.windowB ∧
    (startLineLevel level s).delivery.current = s.delivery.current ∧
    (startLineLevel level s).delivery.position = s.delivery.position ∧
    (startLineLevel level s).delivery.note = s.delivery.note ∧
    (startLineLevel level s).counters.intakeBadFrames = s.counters.intakeBadFrames ∧
    (startLineLevel level s).counters.deliveryBadFrames = s.counters.deliveryBadFrames ∧
    (startLineLevel level s).counters.strayReplies = s.counters.strayReplies ∧
    (startLineLevel level s).counters.lateReplies = s.counters.lateReplies ∧
    (startLineLevel level s).counters.mismatchedReplies = s.counters.mismatchedReplies ∧
    (startLineLevel level s).counters.replyTimeouts = s.counters.replyTimeouts ∧
    (startLineLevel level s).counters.missedSweeps = s.counters.missedSweeps ∧
    (startLineLevel level s).counters.passbackDrops = s.counters.passbackDrops ∧
    (startLineLevel level s).counters.forwardDrops = s.counters.forwardDrops ∧
    (startLineLevel level s).counters.droppedRequests = s.counters.droppedRequests ∧
    (startLineLevel level s).params = s.params ∧ (startLineLevel level s).manager.node = s.manager.node ∧
    (startLineLevel level s).manager.requests = s.manager.requests ∧
    (startLineLevel level s).manager.resetHold = s.manager.resetHold ∧ (startLineLevel level s).intake = s.intake ∧
    (startLineLevel level s).deliveryPort = s.deliveryPort ∧ (startLineLevel level s).clock = s.clock ∧
    (startLineLevel level s).lines = s.lines ∧ (startLineLevel level s).choices = s.choices ∧
    (startLineLevel level s).pending = s.pending := by
  and_intros <;> simp only [startLineLevel] <;> (repeat' split) <;> simp

@[simp] theorem spacingExpires_keeps (s : State) :
    (spacingExpires s).sweeper = s.sweeper ∧ (spacingExpires s).trigger = s.trigger ∧
    (spacingExpires s).memory = s.memory ∧ (spacingExpires s).capture = s.capture ∧
    (spacingExpires s).delivery = s.delivery ∧ (spacingExpires s).notices = s.notices ∧
    (spacingExpires s).counters = s.counters ∧ (spacingExpires s).params = s.params ∧
    (spacingExpires s).manager = s.manager ∧ (spacingExpires s).intake = s.intake ∧
    (spacingExpires s).deliveryPort = s.deliveryPort ∧ (spacingExpires s).clock = s.clock ∧
    (spacingExpires s).lines = s.lines ∧ (spacingExpires s).choices = s.choices ∧
    (spacingExpires s).pending = s.pending := by
  and_intros <;> simp only [spacingExpires] <;> (repeat' split) <;> simp

@[simp] theorem requestTimesOut_keeps (t : Nat) (s : State) :
    (requestTimesOut t s).sweeper.program = s.sweeper.program ∧
    (requestTimesOut t s).sweeper.fixedS = s.sweeper.fixedS ∧
    (requestTimesOut t s).sweeper.burstCount = s.sweeper.burstCount ∧
    (requestTimesOut t s).sweeper.sweepNumber = s.sweeper.sweepNumber ∧
    (requestTimesOut t s).sweeper.gapPending = s.sweeper.gapPending ∧
    (requestTimesOut t s).sweeper.startLevel = s.sweeper.startLevel ∧
    (requestTimesOut t s).delivery.windowA = s.delivery.windowA ∧
    (requestTimesOut t s).delivery.windowB = s.delivery.windowB ∧
    (requestTimesOut t s).delivery.current = s.delivery.current ∧
    (requestTimesOut t s).delivery.position = s.delivery.position ∧
    (requestTimesOut t s).delivery.note = s.delivery.note ∧
    (requestTimesOut t s).counters.intakeBadFrames = s.counters.intakeBadFrames ∧
    (requestTimesOut t s).counters.deliveryBadFrames = s.counters.deliveryBadFrames ∧
    (requestTimesOut t s).counters.strayReplies = s.counters.strayReplies ∧
    (requestTimesOut t s).counters.lateReplies = s.counters.lateReplies ∧
    (requestTimesOut t s).counters.mismatchedReplies = s.counters.mismatchedReplies ∧
    (requestTimesOut t s).counters.missedSweeps = s.counters.missedSweeps ∧
    (requestTimesOut t s).counters.ignoredStartEdges = s.counters.ignoredStartEdges ∧
    (requestTimesOut t s).counters.unstoredSweeps = s.counters.unstoredSweeps ∧
    (requestTimesOut t s).counters.historySpaceDrops = s.counters.historySpaceDrops ∧
    (requestTimesOut t s).counters.passbackDrops = s.counters.passbackDrops ∧
    (requestTimesOut t s).counters.forwardDrops = s.counters.forwardDrops ∧
    (requestTimesOut t s).counters.droppedRequests = s.counters.droppedRequests ∧
    (requestTimesOut t s).params = s.params ∧ (requestTimesOut t s).manager.node = s.manager.node ∧
    (requestTimesOut t s).manager.requests = s.manager.requests ∧
    (requestTimesOut t s).manager.resetHold = s.manager.resetHold ∧ (requestTimesOut t s).intake = s.intake ∧
    (requestTimesOut t s).deliveryPort = s.deliveryPort ∧ (requestTimesOut t s).clock = s.clock ∧
    (requestTimesOut t s).lines = s.lines ∧ (requestTimesOut t s).choices = s.choices ∧
    (requestTimesOut t s).pending = s.pending := by
  and_intros <;> simp only [requestTimesOut] <;> (repeat' split) <;> simp

@[simp] theorem quarantineEnds_keeps (t : Nat) (s : State) :
    (quarantineEnds t s).sweeper = s.sweeper ∧ (quarantineEnds t s).trigger = s.trigger ∧
    (quarantineEnds t s).memory = s.memory ∧ (quarantineEnds t s).capture = s.capture ∧
    (quarantineEnds t s).delivery = s.delivery ∧ (quarantineEnds t s).notices = s.notices ∧
    (quarantineEnds t s).counters = s.counters ∧ (quarantineEnds t s).params = s.params ∧
    (quarantineEnds t s).manager = s.manager ∧ (quarantineEnds t s).intake = s.intake ∧
    (quarantineEnds t s).deliveryPort = s.deliveryPort ∧ (quarantineEnds t s).clock = s.clock ∧
    (quarantineEnds t s).lines = s.lines ∧ (quarantineEnds t s).choices = s.choices ∧
    (quarantineEnds t s).pending = s.pending := by
  and_intros <;> simp only [quarantineEnds] <;> (repeat' split) <;> simp

@[simp] theorem pulseExpires_keeps (s : State) :
    (pulseExpires s).sweeper = s.sweeper ∧ (pulseExpires s).tracker = s.tracker ∧
    (pulseExpires s).trigger.conditions = s.trigger.conditions ∧ (pulseExpires s).trigger.stage = s.trigger.stage ∧
    (pulseExpires s).trigger.forced = s.trigger.forced ∧ (pulseExpires s).memory = s.memory ∧
    (pulseExpires s).capture = s.capture ∧ (pulseExpires s).delivery = s.delivery ∧
    (pulseExpires s).notices = s.notices ∧ (pulseExpires s).counters = s.counters ∧
    (pulseExpires s).params = s.params ∧ (pulseExpires s).manager = s.manager ∧ (pulseExpires s).intake = s.intake ∧
    (pulseExpires s).deliveryPort = s.deliveryPort ∧ (pulseExpires s).clock = s.clock ∧
    (pulseExpires s).lines = s.lines ∧ (pulseExpires s).choices = s.choices ∧
    (pulseExpires s).pending = s.pending := by
  and_intros <;> simp only [pulseExpires] <;> (repeat' split) <;> simp

@[simp] theorem convertEnds_keeps (s : State) :
    (convertEnds s).sweeper = s.sweeper ∧ (convertEnds s).tracker.tags = s.tracker.tags ∧
    (convertEnds s).tracker.lastTag = s.tracker.lastTag ∧ (convertEnds s).tracker.cursor = s.tracker.cursor ∧
    (convertEnds s).tracker.spacing = s.tracker.spacing ∧ (convertEnds s).tracker.converts = s.tracker.converts ∧
    (convertEnds s).trigger = s.trigger ∧ (convertEnds s).memory = s.memory ∧ (convertEnds s).capture = s.capture ∧
    (convertEnds s).delivery = s.delivery ∧ (convertEnds s).notices = s.notices ∧
    (convertEnds s).counters = s.counters ∧ (convertEnds s).params = s.params ∧ (convertEnds s).manager = s.manager ∧
    (convertEnds s).intake.link = s.intake.link ∧ (convertEnds s).intake.cycles = s.intake.cycles ∧
    (convertEnds s).intake.turn = s.intake.turn ∧ (convertEnds s).intake.forward = s.intake.forward ∧
    (convertEnds s).deliveryPort = s.deliveryPort ∧ (convertEnds s).clock = s.clock ∧
    (convertEnds s).lines = s.lines ∧ (convertEnds s).choices = s.choices ∧ (convertEnds s).pending = s.pending := by
  and_intros <;> simp only [convertEnds] <;> (repeat' split) <;> simp

@[simp] theorem recordEnds_keeps (s : State) :
    (recordEnds s).sweeper = s.sweeper ∧ (recordEnds s).tracker = s.tracker ∧ (recordEnds s).trigger = s.trigger ∧
    (recordEnds s).memory.history = s.memory.history ∧ (recordEnds s).memory.current = s.memory.current ∧
    (recordEnds s).memory.reservation = s.memory.reservation ∧ (recordEnds s).capture = s.capture ∧
    (recordEnds s).counters.intakeBadFrames = s.counters.intakeBadFrames ∧
    (recordEnds s).counters.deliveryBadFrames = s.counters.deliveryBadFrames ∧
    (recordEnds s).counters.strayReplies = s.counters.strayReplies ∧
    (recordEnds s).counters.lateReplies = s.counters.lateReplies ∧
    (recordEnds s).counters.mismatchedReplies = s.counters.mismatchedReplies ∧
    (recordEnds s).counters.replyTimeouts = s.counters.replyTimeouts ∧
    (recordEnds s).counters.missedSweeps = s.counters.missedSweeps ∧
    (recordEnds s).counters.ignoredStartEdges = s.counters.ignoredStartEdges ∧
    (recordEnds s).counters.unstoredSweeps = s.counters.unstoredSweeps ∧
    (recordEnds s).counters.historySpaceDrops = s.counters.historySpaceDrops ∧
    (recordEnds s).counters.passbackDrops = s.counters.passbackDrops ∧
    (recordEnds s).counters.forwardDrops = s.counters.forwardDrops ∧
    (recordEnds s).counters.droppedRequests = s.counters.droppedRequests ∧ (recordEnds s).params = s.params ∧
    (recordEnds s).manager = s.manager ∧ (recordEnds s).intake = s.intake ∧
    (recordEnds s).deliveryPort.link = s.deliveryPort.link ∧
    (recordEnds s).deliveryPort.cycles = s.deliveryPort.cycles ∧
    (recordEnds s).deliveryPort.passback = s.deliveryPort.passback ∧ (recordEnds s).clock = s.clock ∧
    (recordEnds s).lines = s.lines ∧ (recordEnds s).choices = s.choices ∧ (recordEnds s).pending = s.pending := by
  and_intros <;> simp only [recordEnds] <;> (repeat' split) <;> simp

@[simp] theorem otherFrameEnds_keeps (p : Port) (s : State) :
    (otherFrameEnds p s).sweeper = s.sweeper ∧ (otherFrameEnds p s).tracker.tags = s.tracker.tags ∧
    (otherFrameEnds p s).tracker.lastTag = s.tracker.lastTag ∧
    (otherFrameEnds p s).tracker.cursor = s.tracker.cursor ∧
    (otherFrameEnds p s).tracker.spacing = s.tracker.spacing ∧
    (otherFrameEnds p s).tracker.converts = s.tracker.converts ∧ (otherFrameEnds p s).trigger = s.trigger ∧
    (otherFrameEnds p s).memory.history = s.memory.history ∧ (otherFrameEnds p s).memory.current = s.memory.current ∧
    (otherFrameEnds p s).memory.reservation = s.memory.reservation ∧ (otherFrameEnds p s).capture = s.capture ∧
    (otherFrameEnds p s).counters.intakeBadFrames = s.counters.intakeBadFrames ∧
    (otherFrameEnds p s).counters.deliveryBadFrames = s.counters.deliveryBadFrames ∧
    (otherFrameEnds p s).counters.strayReplies = s.counters.strayReplies ∧
    (otherFrameEnds p s).counters.lateReplies = s.counters.lateReplies ∧
    (otherFrameEnds p s).counters.mismatchedReplies = s.counters.mismatchedReplies ∧
    (otherFrameEnds p s).counters.replyTimeouts = s.counters.replyTimeouts ∧
    (otherFrameEnds p s).counters.missedSweeps = s.counters.missedSweeps ∧
    (otherFrameEnds p s).counters.ignoredStartEdges = s.counters.ignoredStartEdges ∧
    (otherFrameEnds p s).counters.unstoredSweeps = s.counters.unstoredSweeps ∧
    (otherFrameEnds p s).counters.historySpaceDrops = s.counters.historySpaceDrops ∧
    (otherFrameEnds p s).counters.passbackDrops = s.counters.passbackDrops ∧
    (otherFrameEnds p s).counters.forwardDrops = s.counters.forwardDrops ∧
    (otherFrameEnds p s).counters.droppedRequests = s.counters.droppedRequests ∧
    (otherFrameEnds p s).params = s.params ∧ (otherFrameEnds p s).manager = s.manager ∧
    (otherFrameEnds p s).intake.link = s.intake.link ∧ (otherFrameEnds p s).intake.cycles = s.intake.cycles ∧
    (otherFrameEnds p s).intake.turn = s.intake.turn ∧ (otherFrameEnds p s).intake.forward = s.intake.forward ∧
    (otherFrameEnds p s).deliveryPort.link = s.deliveryPort.link ∧
    (otherFrameEnds p s).deliveryPort.cycles = s.deliveryPort.cycles ∧
    (otherFrameEnds p s).deliveryPort.passback = s.deliveryPort.passback ∧ (otherFrameEnds p s).clock = s.clock ∧
    (otherFrameEnds p s).lines = s.lines ∧ (otherFrameEnds p s).choices = s.choices ∧
    (otherFrameEnds p s).pending = s.pending := by
  and_intros <;> simp only [otherFrameEnds] <;> (repeat' split) <;> simp

@[simp] theorem resetBlocks_keeps (s : State) :
    (resetBlocks s).counters = s.counters ∧ (resetBlocks s).params = s.params ∧ (resetBlocks s).manager = s.manager ∧
    (resetBlocks s).intake = s.intake ∧ (resetBlocks s).deliveryPort = s.deliveryPort ∧
    (resetBlocks s).clock = s.clock ∧ (resetBlocks s).lines = s.lines ∧ (resetBlocks s).choices = s.choices ∧
    (resetBlocks s).pending = s.pending := by
  and_intros <;> rfl

@[simp] theorem resetCompletes_keeps (s : State) :
    (resetCompletes s).counters = s.counters ∧ (resetCompletes s).params = s.params ∧
    (resetCompletes s).manager.node = s.manager.node ∧ (resetCompletes s).manager.requests = s.manager.requests ∧
    (resetCompletes s).intake = s.intake ∧ (resetCompletes s).deliveryPort = s.deliveryPort ∧
    (resetCompletes s).clock = s.clock ∧ (resetCompletes s).lines = s.lines ∧ (resetCompletes s).choices = s.choices ∧
    (resetCompletes s).pending = s.pending := by
  and_intros <;> simp only [resetCompletes] <;> (repeat' split) <;> simp

@[simp] theorem hardResetState_keeps (straps : BitVec 4) (sweepStart : Bool) (s : State) :
    (hardResetState straps sweepStart s).lines = s.lines ∧ (hardResetState straps sweepStart s).choices = s.choices ∧
    (hardResetState straps sweepStart s).pending = s.pending := by
  and_intros <;> rfl

@[simp] theorem tick_keeps (s : State) :
    (tick s).sweeper.program = s.sweeper.program ∧ (tick s).sweeper.fixedS = s.sweeper.fixedS ∧
    (tick s).sweeper.run = s.sweeper.run ∧ (tick s).sweeper.burstCount = s.sweeper.burstCount ∧
    (tick s).sweeper.endCause = s.sweeper.endCause ∧ (tick s).sweeper.sweepNumber = s.sweeper.sweepNumber ∧
    (tick s).sweeper.sweep = s.sweeper.sweep ∧ (tick s).sweeper.gapPending = s.sweeper.gapPending ∧
    (tick s).sweeper.startLevel = s.sweeper.startLevel ∧ (tick s).tracker.lastTag = s.tracker.lastTag ∧
    (tick s).tracker.cursor = s.tracker.cursor ∧ (tick s).tracker.converts = s.tracker.converts ∧
    (tick s).trigger.conditions = s.trigger.conditions ∧ (tick s).trigger.stage = s.trigger.stage ∧
    (tick s).trigger.forced = s.trigger.forced ∧ (tick s).trigger.trigout = s.trigger.trigout ∧
    (tick s).memory = s.memory ∧ (tick s).capture = s.capture ∧ (tick s).delivery = s.delivery ∧
    (tick s).notices = s.notices ∧ (tick s).counters = s.counters ∧ (tick s).params = s.params ∧
    (tick s).manager = s.manager ∧ (tick s).intake = s.intake ∧ (tick s).deliveryPort = s.deliveryPort ∧
    (tick s).lines = s.lines ∧ (tick s).choices = s.choices ∧ (tick s).pending = s.pending := by
  and_intros <;> rfl

@[simp] theorem clockCycle_keeps (s : State) :
    (clockCycle s).sweeper.program = s.sweeper.program ∧ (clockCycle s).sweeper.fixedS = s.sweeper.fixedS ∧
    (clockCycle s).sweeper.run = s.sweeper.run ∧ (clockCycle s).sweeper.burstCount = s.sweeper.burstCount ∧
    (clockCycle s).sweeper.endCause = s.sweeper.endCause ∧
    (clockCycle s).sweeper.sweepNumber = s.sweeper.sweepNumber ∧ (clockCycle s).sweeper.sweep = s.sweeper.sweep ∧
    (clockCycle s).sweeper.gapPending = s.sweeper.gapPending ∧
    (clockCycle s).sweeper.startLevel = s.sweeper.startLevel ∧ (clockCycle s).tracker.lastTag = s.tracker.lastTag ∧
    (clockCycle s).tracker.cursor = s.tracker.cursor ∧ (clockCycle s).tracker.converts = s.tracker.converts ∧
    (clockCycle s).trigger.conditions = s.trigger.conditions ∧ (clockCycle s).trigger.stage = s.trigger.stage ∧
    (clockCycle s).trigger.forced = s.trigger.forced ∧ (clockCycle s).trigger.trigout = s.trigger.trigout ∧
    (clockCycle s).memory = s.memory ∧ (clockCycle s).capture = s.capture ∧ (clockCycle s).delivery = s.delivery ∧
    (clockCycle s).notices = s.notices ∧ (clockCycle s).counters = s.counters ∧ (clockCycle s).params = s.params ∧
    (clockCycle s).manager = s.manager ∧ (clockCycle s).intake.link = s.intake.link ∧
    (clockCycle s).intake.lane = s.intake.lane ∧ (clockCycle s).intake.turn = s.intake.turn ∧
    (clockCycle s).intake.forward = s.intake.forward ∧ (clockCycle s).deliveryPort.link = s.deliveryPort.link ∧
    (clockCycle s).deliveryPort.lane = s.deliveryPort.lane ∧ (clockCycle s).deliveryPort.turn = s.deliveryPort.turn ∧
    (clockCycle s).deliveryPort.passback = s.deliveryPort.passback ∧ (clockCycle s).lines = s.lines ∧
    (clockCycle s).choices = s.choices ∧ (clockCycle s).pending = s.pending := by
  and_intros <;> simp only [clockCycle] <;> (repeat' split) <;> simp

@[simp] theorem idle_keeps (s : State) :
    (idle s).sweeper.program = s.sweeper.program ∧ (idle s).sweeper.fixedS = s.sweeper.fixedS ∧
    (idle s).sweeper.run = s.sweeper.run ∧ (idle s).sweeper.burstCount = s.sweeper.burstCount ∧
    (idle s).sweeper.endCause = s.sweeper.endCause ∧ (idle s).sweeper.sweepNumber = s.sweeper.sweepNumber ∧
    (idle s).sweeper.sweep = s.sweeper.sweep ∧ (idle s).sweeper.gapPending = s.sweeper.gapPending ∧
    (idle s).sweeper.startLevel = s.sweeper.startLevel ∧ (idle s).tracker.lastTag = s.tracker.lastTag ∧
    (idle s).tracker.cursor = s.tracker.cursor ∧ (idle s).tracker.converts = s.tracker.converts ∧
    (idle s).trigger.conditions = s.trigger.conditions ∧ (idle s).trigger.stage = s.trigger.stage ∧
    (idle s).trigger.forced = s.trigger.forced ∧ (idle s).trigger.trigout = s.trigger.trigout ∧
    (idle s).memory = s.memory ∧ (idle s).capture = s.capture ∧ (idle s).delivery = s.delivery ∧
    (idle s).notices = s.notices ∧ (idle s).counters = s.counters ∧ (idle s).params = s.params ∧
    (idle s).manager = s.manager ∧ (idle s).intake.link = s.intake.link ∧ (idle s).intake.lane = s.intake.lane ∧
    (idle s).intake.turn = s.intake.turn ∧ (idle s).intake.forward = s.intake.forward ∧
    (idle s).deliveryPort.link = s.deliveryPort.link ∧ (idle s).deliveryPort.lane = s.deliveryPort.lane ∧
    (idle s).deliveryPort.turn = s.deliveryPort.turn ∧ (idle s).deliveryPort.passback = s.deliveryPort.passback ∧
    (idle s).lines = s.lines := by
  and_intros <;> simp only [idle] <;> (repeat' split) <;> simp

end Sys2Proof.Machine
end

