-- ==== Sys2Proof/Laws/Effect.lean ====
section
/-! SUPPORT. Every command answers next: one function gives the state its effects leave before the arbiters choose. -/

namespace Sys2Proof.Machine

/-- The state a command's effects leave, before the arbiters choose. -/
def effect (i : Instr) (s : State) : State :=
  match i with
  | .echo => executeFront kindEcho echoBody s
  | .readStatus => executeFront kindReadStatus readStatusBody s
  | .setParameter => executeFront kindSetParameter setParameterBody s
  | .getParameter => executeFront kindGetParameter getParameterBody s
  | .writeProgramEntry => executeFront kindWriteProgramEntry writeProgramEntryBody s
  | .readProgramEntry => executeFront kindReadProgramEntry readProgramEntryBody s
  | .startRun lines => executeFront kindStartRun (startRunBody lines) s
  | .stopRun => executeFront kindStopRun stopRunBody s
  | .writeCondition => executeFront kindWriteCondition writeConditionBody s
  | .readCondition => executeFront kindReadCondition readConditionBody s
  | .forceTrigger => executeFront kindForceTrigger forceTriggerBody s
  | .arm => executeFront kindArm armBody s
  | .disarm => executeFront kindDisarm disarmBody s
  | .clearHalt => executeFront kindClearHalt clearHaltBody s
  | .openWindow => executeFront kindOpenWindow openWindowBody s
  | .closeWindow => executeFront kindCloseWindow closeWindowBody s
  | .discardRecord => executeFront kindDiscardRecord discardRecordBody s
  | .readCounters => executeFront kindReadCounters readCountersBody s
  | .resetEngine => executeFront kindResetEngine resetEngineBody s
  | .unknownRequestKind => unknownKind s
  | .requestArrival r => receiveRequest r s
  | .sampleReceived f lines => receiveSample f (seeLines lines s)
  | .passbackReceived f => receiveIntakeFrame f s
  | .badFrame p lines => receiveBadFrame p (seeLines lines s)
  | .idleAlignmentSequence p => setLink p (s.link p).align s
  | .goodIdleGroup p => goodReception p s
  | .malformedIdleGroup p lines => badReception p (seeLines lines s)
  | .lossOfSignal p lines => setLink p (s.link p).lost (seeLines lines s)
  | .pacerExpiry lines => pacerExpires (seeLines lines s)
  | .sweepStartEdge level lines => startLineLevel level (seeLines lines s)
  | .spacingTimerExpiry lines => spacingExpires (seeLines lines s)
  | .convertSent => convertEnds s
  | .requestTimeout tag lines => requestTimesOut tag.val (seeLines lines s)
  | .quarantineExpiry tag lines => quarantineEnds tag.val (seeLines lines s)
  | .trigoutPulseExpiry => pulseExpires s
  | .recordFrameEnd => recordEnds s
  | .frameTransmissionEnd p => otherFrameEnds p s
  | .resetEffects => resetCompletes s
  | .hardReset straps sweepStart => hardResetState straps sweepStart s
  | .frameReceivedWhileAligning p good => frameWhileAligning p good s

/-- Every command answers next, with its effects and then the arbiters' choices. -/
theorem exec_effect (i : Instr) (s : State) : exec i s = .next (settle (effect i s)) := by cases i <;> rfl

/-- A promise that the front request's departure and its execution keep, the execution of the front request keeps. -/
theorem executeFront_of {P : State → Prop} {kind : Byte} {body : Request → State → State} {s : State} (h : P s)
    (hb : ∀ r, s.manager.front = some r → P (body r (popRequest s))) : P (executeFront kind body s) := by
  unfold executeFront
  split
  · rename_i r hr
    split
    · exact hb r hr
    · exact h
  · exact h

/-- With a front request of its kind, a request command runs its body on it. -/
theorem executeFront_front {kind : Byte} {body : Request → State → State} {s : State} {r : Request}
    (hr : s.manager.front = some r) (hk : r.kind = kind) : executeFront kind body s = body r (popRequest s) := by
  simp [executeFront, hr, hk]

end Sys2Proof.Machine
end

