-- ==== Sys2Proof/Laws/Operations.lean ====
section
/-! SUPPORT. What the shared operations do, said once: requests, arguments, counters, cells, tags, issuing, frames. -/

namespace Sys2Proof.Machine

/-! ## Steps -/

/-- What changing the queue of commands, every command's effects, the arbiters and an idle step keep, every step keeps. -/
theorem step_keeps {P : State → Prop} (pending : ∀ (s : State) (l : List Instr), P s → P { s with pending := l })
    (effects : ∀ c s, P s → P (effect c s)) (arbiters : ∀ s, P s → P (settle s)) (idles : ∀ s, P s → P (idle s)) :
    ∀ s t, P s → step s = .next t → P t := by
  intro s t h hs
  unfold step at hs
  split at hs
  · rw [exec_effect] at hs
    cases hs
    exact arbiters _ (effects _ _ (pending _ _ h))
  · cases hs
    exact idles _ h

/-! ## Requests -/

/-- The request that executes is the one in front. -/
theorem Executes.front_eq {s : State} {r : Request} {rest : List Request} (h : Executes s r rest) :
    s.manager.front = some r := by
  have hf := h.front
  have hd := h.free
  unfold ManagementController.front ManagementController.held
  cases e : s.manager.deferred with
  | resetEngine q => exact absurd e (hd q)
  | empty => simp [hf]
  | stopRun q => simp [hf]

/-- It leaves the queue with the others behind it. -/
theorem Executes.popped {s : State} {r : Request} {rest : List Request} (h : Executes s r rest) :
    popRequest s = { s with manager.requests := rest } := by
  simp [popRequest, h.front]

/-- A request command of its kind runs its body on it. -/
theorem Executes.runs {s : State} {r : Request} {rest : List Request} {kind : Byte} (body : Request → State → State)
    (h : Executes s r rest) (hk : r.kind = kind) :
    executeFront kind body s = body r { s with manager.requests := rest } := by
  rw [executeFront_front h.front_eq hk, h.popped]

/-- An answer to it is the answer the statements name. -/
theorem respond_answered (s : State) (r : Request) (rest : List Request) (status : Status) (payload : List Word) :
    respond r status payload { s with manager.requests := rest } = s.answered r rest status payload := rfl

@[simp] theorem respond_responses (r : Request) (status : Status) (payload : List Word) (s : State) :
    (respond r status payload s).manager.responses = s.manager.responses ++ [responseTo r status payload] := rfl

/-! ## Arguments -/

/-- An argument within its bounds is taken as it is. -/
theorem argIn_eq_some {lo hi n : Nat} {w : Word} : argIn lo hi w = some n ↔ (lo ≤ w.toNat ∧ w.toNat ≤ hi) ∧ n = w.toNat := by
  unfold argIn
  split
  · rename_i h
    simp [h, eq_comm]
  · rename_i h
    simp [h]

/-- A two-valued argument is 0 or 1. -/
theorem argBool_of_le {w : Word} (h : w.toNat ≤ 1) : argBool w = some (decide (w = 1)) := by
  unfold argBool
  by_cases e : w = 0
  · simp [e]
  · have h0 : w.toNat ≠ 0 := fun h0 => e (BitVec.eq_of_toNat_eq h0)
    have h1 : w = 1 := BitVec.eq_of_toNat_eq (by simp; omega)
    simp [h1]

/-- Any other argument is no truth value. -/
theorem argBool_of_lt {w : Word} (h : 1 < w.toNat) : argBool w = none := by
  unfold argBool
  rw [if_neg (by rintro rfl; simp at h), if_neg (by rintro rfl; simp at h)]

/-- A window argument is 0 or 1. -/
theorem argWindow_of_le {w : Word} (h : w.toNat ≤ 1) : argWindow w = some (if w = 0 then .a else .b) := by
  unfold argWindow
  by_cases e : w = 0
  · simp [e]
  · have h0 : w.toNat ≠ 0 := fun h0 => e (BitVec.eq_of_toNat_eq h0)
    have h1 : w = 1 := BitVec.eq_of_toNat_eq (by simp; omega)
    simp [h1]

/-- Any other argument is no window. -/
theorem argWindow_of_lt {w : Word} (h : 1 < w.toNat) : argWindow w = none := by
  unfold argWindow
  rw [if_neg (by rintro rfl; simp at h), if_neg (by rintro rfl; simp at h)]

/-- The code of a window names it. -/
theorem argWindow_code (w : WindowId) : argWindow (word w.code) = some w := by cases w <;> decide

/-- A code of the table stands for a parameter. -/
theorem argParam_of_range {code : Word} (h1 : 1 ≤ code.toNat) (h2 : code.toNat ≤ 16) : ∃ p, argParam code = some p := by
  unfold argParam
  generalize code.toNat = n at *
  rcases n with _ | _ | _ | _ | _ | _ | _ | _ | _ | _ | _ | _ | _ | _ | _ | _ | _ | n
  all_goals first
    | omega
    | simp

/-- No other code stands for one. -/
theorem argParam_eq_none {code : Word} (h : code.toNat = 0 ∨ 16 < code.toNat) : argParam code = none := by
  unfold argParam
  generalize code.toNat = n at *
  split <;> first
    | omega
    | rfl

/-- A parameter's place in the table of states agrees with the model's test. -/
theorem Param.writable_iff (p : Param) (s : State) :
    p.writable s.sweeper.run s.capture.state = true ↔ p.writtenWhile s := by
  cases p <;> simp [Param.writable, Param.writtenWhile]

/-- A signed argument in range is its low half, and the low half stands for the same number. -/
theorem setWidth_toInt {w : Word} (h : -32768 ≤ w.toInt ∧ w.toInt ≤ 32767) : (w.setWidth 16).toInt = w.toInt := by
  rw [BitVec.toInt_setWidth, ← BitVec.toInt_bmod_cancel w]
  have : ((w.toNat : Int)).bmod (2 ^ 16) = (w.toInt).bmod (2 ^ 16) := by
    rw [BitVec.toInt_eq_toNat_bmod, Int.bmod_bmod_of_dvd (by decide)]
  rw [BitVec.toInt_bmod_cancel, this]
  exact Int.bmod_eq_of_le (by omega) (by omega)

/-- Its sign extension is the argument. -/
theorem signExtend_setWidth {w : Word} (h : -32768 ≤ w.toInt ∧ w.toInt ≤ 32767) :
    (w.setWidth 16).signExtend 32 = w := by
  apply BitVec.eq_of_toInt_eq
  rw [BitVec.toInt_signExtend_of_le (by omega), setWidth_toInt h]

/-! ## Counters and cells -/

/-- A counter raised by nothing stays. -/
@[simp] theorem satAdd_zero (c : Counter) : satAdd c 0 = c := by
  apply BitVec.eq_of_toNat_eq
  have := c.isLt
  simp [satAdd]
  omega

/-- A raised counter is the sum, stopped at 65535 (R138). -/
theorem satAdd_toNat (c : Counter) (k : Nat) : (satAdd c k).toNat = min 65535 (c.toNat + k) := by
  simp [satAdd]

@[simp] theorem blocksCost_nil : blocksCost [] = 0 := rfl

@[simp] theorem blocksCost_cons (b : Block) (bs : List Block) : blocksCost (b :: bs) = b.cost + blocksCost bs := by
  simp [blocksCost]

@[simp] theorem blocksCost_append (as bs : List Block) : blocksCost (as ++ bs) = blocksCost as + blocksCost bs := by
  simp [blocksCost]

/-- A block is written as many cells as it takes. -/
@[simp] theorem Block.words_length (b : Block) : b.words.length = b.cost := by
  simp only [Block.words, Block.cost, Config.blockHeaderCells, List.length_cons, List.length_mapIdx]
  omega

/-- A bit set at its place stands there and nowhere else (R178). -/
theorem bitAt_getLsbD {place : Nat} (hp : place < 32) (b : Bool) (i : Nat) :
    (bitAt place b).getLsbD i = (b && decide (i = place)) := by
  unfold bitAt
  cases b with
  | false => simp
  | true =>
    rw [if_pos rfl, BitVec.getLsbD_shiftLeft, BitVec.getLsbD_one]
    by_cases h : i = place
    · simp [h, hp]
    · by_cases h1 : i < place
      · simp [h, h1]
      · have : ¬ i - place = 0 := by omega
        simp [h, this]

@[simp] theorem RecordHeader.words_length (h : RecordHeader) : h.words.length = Config.headerCells := rfl

/-- The blocks of a record are written as many cells as they take. -/
theorem flatMap_words_length (bs : List Block) : (bs.flatMap Block.words).length = blocksCost bs := by
  induction bs with
  | nil => rfl
  | cons b bs ih => simp [blocksCost] at *

/-- Dropping moves cells from the ring to free, drops from the front only, and keeps the ring when it drops nothing. -/
theorem dropWhileShort_spec (cost : Nat) (bs : List Block) (free : Nat) :
    (dropWhileShort cost bs free).2.1 + blocksCost (dropWhileShort cost bs free).1 = free + blocksCost bs ∧
    (dropWhileShort cost bs free).1 = bs.drop (dropWhileShort cost bs free).2.2 ∧
    (dropWhileShort cost bs free).2.2 ≤ bs.length := by
  induction bs generalizing free with
  | nil => simp [dropWhileShort]
  | cons b bs ih =>
    unfold dropWhileShort
    split
    · obtain ⟨h1, h2, h3⟩ := ih (free + b.cost)
      refine ⟨?_, ?_, ?_⟩
      · simp only [blocksCost_cons]
        omega
      · simpa using h2
      · simpa using h3
    · simp

/-! ## Tags and issuing -/

/-- The tag chosen is one of the 32 and FREE (R31). -/
theorem chooseTag_free {tags : List TagState} {last t : Nat} (h : chooseTag tags last = some t) :
    t < 32 ∧ tags[t]? = some .free := by
  unfold chooseTag at h
  dsimp only at h
  split at h
  · rename_i u hu
    cases h
    have h1 := List.mem_of_find?_eq_some hu
    have h2 := List.find?_some hu
    simp at h1 h2
    exact ⟨h1, h2.2⟩
  · have h1 := List.mem_of_find?_eq_some h
    have h2 := List.find?_some h
    simp at h1 h2
    exact ⟨h1, h2⟩

/-- What the issue test finds ready (R29). -/
theorem readyToIssue_some {s : State} {i t : Nat} (h : readyToIssue s = some (i, t)) :
    s.intake.link.state = .up ∧ s.tracker.spacing = none ∧ s.tracker.inFlight.length < s.params.inflightLimit ∧
      s.tracker.cursor = some i ∧ t < 32 ∧ s.tracker.tags[t]? = some .free := by
  unfold readyToIssue at h
  split at h
  · rename_i hg
    split at h
    · rename_i hc ht
      simp at h
      obtain ⟨rfl, rfl⟩ := h
      exact ⟨hg.1, hg.2.1, hg.2.2, hc, chooseTag_free ht⟩
    · simp at h
  · simp at h

/-- A promise that every issue keeps, the issue test keeps. -/
theorem issueLoop_of {P : State → Prop} (issue : ∀ (s : State) i t, readyToIssue s = some (i, t) → P s → P (issueEntry i t s)) :
    ∀ (n : Nat) (s : State), P s → P (issueLoop n s)
  | 0, _, h => h
  | n + 1, s, h => by
    unfold issueLoop
    split
    · rename_i i t hr
      exact issueLoop_of issue n _ (issue s i t hr h)
    · exact h

/-- A promise that every MISSING(LINK) completion keeps, the fill keeps. -/
theorem linkFill_of {P : State → Prop} (fill : ∀ (s : State) i, s.tracker.cursor = some i → P s → P (missingLink i s)) :
    ∀ (n : Nat) (s : State), P s → P (linkFill n s)
  | 0, _, h => h
  | n + 1, s, h => by
    unfold linkFill
    split
    · rename_i i hc
      exact linkFill_of fill n _ (fill s i hc h)
    · exact h

/-- The fill leaves the cursor at end when it may repeat as often as entries are left (R43). -/
theorem linkFill_cursor_none (n : Nat) (s : State)
    (room : s.params.programLength ≤ n + s.tracker.cursor.getD s.params.programLength)
    (inUse : ∀ i, s.tracker.cursor = some i → i < s.params.programLength) : (linkFill n s).tracker.cursor = none := by
  induction n generalizing s with
  | zero =>
    unfold linkFill
    cases hc : s.tracker.cursor with
    | none => rfl
    | some i =>
      have := inUse i hc
      simp [hc] at room
      omega
  | succ n ih =>
    unfold linkFill
    cases hc : s.tracker.cursor with
    | none => simp [hc]
    | some i =>
      have := inUse i hc
      simp [hc] at room
      have hp : (missingLink i s).params = s.params := by simp
      have hn : (missingLink i s).tracker.cursor = nextCursor s.params.programLength i := by simp [missingLink]
      apply ih
      · rw [hn, hp]
        unfold nextCursor
        split
        all_goals
          simp
          try omega
      · rw [hn, hp]
        intro j hj
        simp [nextCursor] at hj
        omega

/-! ## The fire record -/

/-- The first condition found in the fire record with a role, counted from n (R58). -/
theorem firstFired_eq_some {role : Role} {cs : List Condition} {n m : Nat} (h : firstFired role cs n = some m) :
    ∃ k c, m = n + k ∧ cs[k]? = some c ∧ c.fired = some role ∧
      ∀ j d, j < k → cs[j]? = some d → d.fired ≠ some role := by
  induction cs generalizing n with
  | nil => simp [firstFired] at h
  | cons c cs ih =>
    unfold firstFired at h
    split at h
    · cases h
      exact ⟨0, c, rfl, rfl, by assumption, by simp⟩
    · obtain ⟨k, d, e, h1, h2, h3⟩ := ih h
      refine ⟨k + 1, d, by omega, by simpa using h1, h2, ?_⟩
      intro j x hj hx
      cases j with
      | zero =>
        simp at hx
        subst hx
        assumption
      | succ j => exact h3 j x (by omega) (by simpa using hx)

/-- None is found when none is there. -/
theorem firstFired_eq_none {role : Role} {cs : List Condition} {n : Nat} :
    firstFired role cs n = none ↔ ∀ c ∈ cs, c.fired ≠ some role := by
  induction cs generalizing n with
  | nil => simp [firstFired]
  | cons c cs ih =>
    unfold firstFired
    split
    · rename_i h
      simp [h]
    · rename_i h
      simp [h, ih]

/-! ## The Delivery Queue -/

/-- The record a discard finds stands where it was found, and no earlier one has its id (R124). -/
theorem splitAtId_eq_some {id : BitVec 16} {l before after : List QueuedRecord} {q : QueuedRecord}
    (h : splitAtId id l = some (before, q, after)) :
    l = before ++ q :: after ∧ q.header.id = id ∧ ∀ b ∈ before, b.header.id ≠ id := by
  induction l generalizing before with
  | nil => simp [splitAtId] at h
  | cons x xs ih =>
    unfold splitAtId at h
    split at h
    · simp at h
      obtain ⟨rfl, rfl, rfl⟩ := h
      simpa
    · rename_i hx
      simp at h
      obtain ⟨b, hs, rfl⟩ := h
      obtain ⟨h1, h2, h3⟩ := ih hs
      refine ⟨by simp [h1], h2, ?_⟩
      intro y hy
      rcases List.mem_cons.mp hy with rfl | hy
      · exact hx
      · exact h3 y hy

/-- A record found behind others is split off there. -/
theorem splitAtId_append {id : BitVec 16} {before after : List QueuedRecord} {q : QueuedRecord}
    (hb : ∀ b ∈ before, b.header.id ≠ id) (hq : q.header.id = id) :
    splitAtId id (before ++ q :: after) = some (before, q, after) := by
  induction before with
  | nil => simp [splitAtId, hq]
  | cons b bs ih =>
    simp at hb
    simp [splitAtId, hb.1, ih hb.2]

/-! ## Frames -/

/-- Four bytes for every word of a payload (R177). -/
theorem flatMap_bytes32_length (ws : List Word) : (ws.flatMap bytes32).length = 4 * ws.length := by
  induction ws with
  | nil => rfl
  | cons w ws ih =>
    simp only [List.flatMap_cons, List.length_append, ih, List.length_cons, bytes32, List.length_nil]
    omega

/-- The four bytes of a word, joined in their order, are the word (R177). -/
theorem joined_bytes (w : Word) :
    w.extractLsb' 24 8 ++ w.extractLsb' 16 8 ++ w.extractLsb' 8 8 ++ w.extractLsb' 0 8 = w := by
  apply BitVec.eq_of_getLsbD_eq
  intro i hi
  simp only [BitVec.getLsbD_append, BitVec.getLsbD_extractLsb']
  by_cases h1 : i < 8
  · simp [h1]
  · by_cases h2 : i < 16
    · have : i - 8 < 8 := by omega
      have : 8 + (i - 8) = i := by omega
      simp_all
    · by_cases h3 : i < 24
      · have : ¬ i - 8 < 8 := by omega
        have : i - 8 - 8 < 8 := by omega
        have : 16 + (i - 8 - 8) = i := by omega
        simp_all
      · have : ¬ i - 8 < 8 := by omega
        have : ¬ i - 8 - 8 < 8 := by omega
        have : i - 8 - 8 - 8 < 8 := by omega
        have : 24 + (i - 8 - 8 - 8) = i := by omega
        simp_all

/-- The words of a payload read back from its bytes (R177). -/
theorem wordsOf_flatMap (ws : List Word) : wordsOf (ws.flatMap bytes32) = some ws := by
  induction ws with
  | nil => rfl
  | cons w ws ih =>
    have h : (w :: ws).flatMap bytes32 = w.extractLsb' 24 8 :: w.extractLsb' 16 8 :: w.extractLsb' 8 8 ::
        w.extractLsb' 0 8 :: ws.flatMap bytes32 := by
      simp [bytes32]
    rw [h, wordsOf, ih]
    simp only [Option.map_some]
    rw [joined_bytes]

/-- The payload bytes the intake lane counts are those of the frame (R177). -/
theorem UpFrame.payload_length (node : BitVec 4) (f : UpFrame) : (f.raw node).payload.length = f.payloadBytes := by
  cases f with
  | convert f => rfl
  | forward r =>
    simp only [UpFrame.raw, requestFrame, buildFrame, UpFrame.payloadBytes, List.length_cons, flatMap_bytes32_length]
    omega

/-- The payload bytes the delivery lane counts are those of the frame (R177). -/
theorem DownFrame.payload_length (node : BitVec 4) (f : DownFrame) :
    (f.raw node).payload.length = f.payloadBytes := by
  cases f with
  | response r =>
    simp only [DownFrame.raw, Response.raw, buildFrame, DownFrame.payloadBytes, List.length_cons, flatMap_bytes32_length]
    omega
  | passback f => rfl
  | notice n d =>
    simp only [DownFrame.raw, Notice.raw, buildFrame, DownFrame.payloadBytes, List.length_cons, flatMap_bytes32_length]
    omega
  | record f =>
    simp only [DownFrame.raw, RecordFrame.raw, buildFrame, DownFrame.payloadBytes, List.length_cons, List.length_append,
      List.length_nil, flatMap_bytes32_length, bytes16]
    omega

end Sys2Proof.Machine
end

