-- ==== Sys2Proof/Laws/Trigger.lean ====
section
/-! SUPPORT. What each operation on a condition keeps, what a fire record and a fresh stage say, and the cells of a record as
it closes: the lemmas the invariants of the Trigger Unit and of the queued records rest on. -/

namespace Sys2Proof.Machine

/-! ## Conditions -/

/-- An evaluation of a condition that is not OFF keeps its invariant and its role (R49, R53). -/
theorem conditionInv_evaluate {c : Condition} (satisfied reready : Bool) (h : ConditionInv c) (hr : c.role ≠ .off) :
    ConditionInv (c.evaluate satisfied reready) ∧ (c.evaluate satisfied reready).role = c.role := by
  obtain ⟨h1, h2, h3, h4, h5, h6, h7, h8⟩ := h
  unfold Condition.evaluate
  split <;> split <;> (try split) <;> refine ⟨⟨h1, h2, h3, h4, h5, ?_, ?_, ?_⟩, rfl⟩ <;> simp_all <;> omega

/-- A sample handed to a condition that is not OFF keeps its invariant and its role (R50, R54). -/
theorem conditionInv_onContent {c : Condition} (x : Content) (h : ConditionInv c) (hr : c.role ≠ .off) :
    ConditionInv (c.onContent x) ∧ (c.onContent x).role = c.role := by
  cases x with
  | value v overRange => exact conditionInv_evaluate _ _ h hr
  | missing reason =>
    obtain ⟨h1, h2, h3, h4, h5, h6, h7, h8⟩ := h
    exact ⟨⟨h1, h2, h3, h4, h5, Nat.lt_of_lt_of_le Nat.zero_lt_one h2.1, fun _ => rfl, h8⟩, rfl⟩

/-- A completion of an entry keeps every condition's invariant and role (R42, R50). -/
theorem conditionInv_onEntry {c : Condition} (i : Nat) (x : Content) (h : ConditionInv c) :
    ConditionInv (c.onEntry i x) ∧ (c.onEntry i x).role = c.role := by
  unfold Condition.onEntry
  split
  · rename_i hc
    exact conditionInv_onContent x h hc.1
  · exact ⟨h, rfl⟩

/-- The lines sampled at a sweep start keep every condition's invariant and role (R50, R52). -/
theorem conditionInv_onLines {c : Condition} (lines : Lines) (h : ConditionInv c) :
    ConditionInv (c.onLines lines) ∧ (c.onLines lines).role = c.role := by
  unfold Condition.onLines
  split
  · exact ⟨h, rfl⟩
  · rename_i hr
    split
    · exact ⟨h, rfl⟩
    · exact conditionInv_evaluate _ _ h hr
    · exact conditionInv_evaluate _ _ h hr

/-- A condition that leaves the fire record keeps its invariant and its role (R55). -/
theorem conditionInv_unfired {c : Condition} (h : ConditionInv c) : ConditionInv c.unfired ∧ c.unfired.role = c.role := by
  obtain ⟨h1, h2, h3, h4, h5, h6, h7, h8⟩ := h
  exact ⟨⟨h1, h2, h3, h4, h5, h6, h7, by simp [Condition.unfired]⟩, rfl⟩

/-- A condition set UNKNOWN keeps its invariant and its role (R66, R69). -/
theorem conditionInv_unknown {c : Condition} (h : ConditionInv c) : ConditionInv c.unknown ∧ c.unknown.role = c.role := by
  obtain ⟨h1, h2, h3, h4, h5, h6, h7, h8⟩ := h
  exact ⟨⟨h1, h2, h3, h4, h5, Nat.lt_of_lt_of_le Nat.zero_lt_one h2.1, fun _ => rfl, h8⟩, rfl⟩

/-! ## Stage and verdict -/

/-- The stage set afresh is OPEN exactly when no condition has role QUALIFY (R56). -/
theorem freshStage_eq_open (conditions : List Condition) :
    freshStage conditions = .openStage ↔ ∀ c ∈ conditions, c.role ≠ .qualify := by
  unfold freshStage
  split <;> simp_all

/-- The stage set afresh has no window (R56). -/
theorem freshStage_ne_qualified (conditions : List Condition) (w : Nat) : freshStage conditions ≠ .qualified w := by
  unfold freshStage
  split <;> simp

/-- A QUALIFY verdict comes of a condition with role QUALIFY (R55, R58). -/
theorem verdict_qualify_role {t : TriggerUnit} (hv : t.verdict = .qualify) (hc : ∀ c ∈ t.conditions, ConditionInv c) :
    ∃ c ∈ t.conditions, c.role = .qualify := by
  unfold TriggerUnit.verdict at hv
  split at hv
  · cases hv
  · split at hv
    · cases hv
    · split at hv
      · rename_i hq
        obtain ⟨n, hn⟩ := Option.isSome_iff_exists.mp hq
        obtain ⟨k, c, _, hk, hf, _⟩ := firstFired_eq_some hn
        have hm := List.mem_of_getElem? hk
        exact ⟨c, hm, ((hc c hm).fired _ hf).1.symm⟩
      · cases hv

/-! ## The cells of a record -/

/-- Blocks of one size cost that many cells each, and two more (R71, R73). -/
theorem blocksCost_of_size (n : Nat) :
    ∀ blocks : List Block, (∀ b ∈ blocks, b.cells.length = n) → blocksCost blocks = blocks.length * (2 + n) := by
  intro blocks
  induction blocks with
  | nil =>
    intro _
    simp [blocksCost]
  | cons b bs ih =>
    intro h
    have hb : b.cost = 2 + n := by simp [Block.cost, Config.blockHeaderCells, h b List.mem_cons_self]
    rw [blocksCost_cons, hb, ih (fun x hx => h x (List.mem_cons_of_mem _ hx)), List.length_cons, Nat.add_mul]
    omega

/-- A record that closes has the cells its header counts, when its blocks are those its fields count (R74, R98). -/
theorem close_cells_total (r : OpenRecord) (posttrigger : Nat) (truncated cut : Bool)
    (hs : ∀ b ∈ r.blocks, b.cells.length = r.s)
    (hn : r.blocks.length = r.preBlocks + (if r.headLost then 0 else 1) + r.postStored posttrigger) :
    (r.close posttrigger truncated cut).cells.length = (r.close posttrigger truncated cut).header.total := by
  simp only [OpenRecord.close, OpenRecord.header, List.length_append, RecordHeader.words_length, flatMap_words_length,
    blocksCost_of_size r.s r.blocks hs, hn, Config.headerCells, Config.blockHeaderCells]

end Sys2Proof.Machine
end

