-- ==== Sys2Proof/Tests/Slice0.lean ====
section
/-! SUPPORT. Small tests: ill-formed commands, the frame check, one step of each command, and states that meet the
hypotheses of the statements (`met_<statement>`), clause by clause at the values where clauses meet. -/

namespace Sys2Proof.Tests

open Sys2Proof Sys2Proof.Machine

/-! ## States the tests start from -/

/-- A request from node 3 with tag 7 to node 0. -/
def ask (kind : Byte) (args : List Word) : Request := { destination := 0, source := 3, tag := 7, kind, args }

/-- The request stands alone in the Request Queue. -/
def asking (kind : Byte) (args : List Word) (s : State) : State := { s with manager.requests := [ask kind args] }

/-- The state a command answers. -/
def after (o : Result) : State :=
  match o with
  | .next t => t
  | .fault _ | .refused _ => State.reset

/-- The responses that wait after a command, as status and payload. -/
def answers (o : Result) : List (Status × List Word) := (after o).manager.responses.map (fun x => (x.status, x.payload))

/-- All sampled lines low. -/
def low : Lines := { marks := 0, trig0 := false, trig1 := false }

/-- Both links UP. -/
def linked : State := { State.reset with intake.link := ⟨.up, 4, 0⟩, deliveryPort.link := ⟨.up, 4, 0⟩ }

/-- A run in this state, with no sweep in progress. -/
def runs (run : RunState) (s : State) : State := { s with sweeper.run := run }

/-- A sweep in progress. -/
def sweeping (s : State) : State := { s with sweeper.sweep := some ⟨1, 0, false⟩ }

/-- Capture in this state. -/
def captures (c : CaptureState) (s : State) : State := { s with capture.state := c }

/-- The deferred slot. -/
def defers (d : Deferred) (s : State) : State := { s with manager.deferred := d }

/-- A timing request with tag 0 for the entry 0. -/
def timing : InFlight :=
  { tag := 0, index := 0, unit := 2, channel := 5, setting := 1, markers := 0, issueTime := 0, remaining := some 40 }

/-- One request in flight, its tag IN_FLIGHT. -/
def inFlight (e : InFlight) (s : State) : State :=
  { s with tracker.inFlight := [e], tracker.tags := s.tracker.tags.set e.tag .inFlight }

/-- A queued record of five cells. -/
def queuedRecord (id : BitVec 16) : QueuedRecord :=
  { header := { id, cause := .force, shortHead := false, headLost := true, truncated := false, cut := true, s := 0,
                triggerSweep := 1, preBlocks := 0, postBlocks := 0, total := 5 },
    cells := [0, 0, 0, 0, 9], discarded := false }

/-- The Delivery Queue. -/
def queues (qs : List QueuedRecord) (s : State) : State := { s with delivery.queue := qs }

/-- A record frame with this many cells, last or not, abandoned or not. -/
def frame (n : Nat) (last abandoned : Bool) : RecordFrame :=
  { window := .a, windowTag := 9, windowOffset := 0, recordId := 1, recordOffset := 0, first := true, last, abandoned,
    payload := List.replicate n 0 }

/-- The example program of 01: six entries, five of them STORE. -/
def exampleProgram (s : State) : State :=
  { s with
    params.programLength := 6
    sweeper.program := [true, true, false, true, true, true].map (fun b => ⟨0, 0, 0, b⟩) ++ s.sweeper.program.drop 6 }

/-- The record frame in transmission on an UP delivery link. -/
def sends (f : RecordFrame) (s : State) : State :=
  { s with deliveryPort.link := ⟨.up, 4, 0⟩, deliveryPort.lane := some (.record f) }

/-- Window A open with this size. -/
def opened (size : Nat) (s : State) : State := { s with delivery.windowA := ⟨true, size, 0, 9, true, false⟩ }

/-- The request a test puts in the queue executes next. -/
theorem asking_executes (kind : Byte) (args : List Word) (s : State) (h : ∀ q, s.manager.deferred ≠ .resetEngine q) :
    Executes (asking kind args s) (ask kind args) [] := ⟨rfl, h⟩

/-- After reset no RESET_ENGINE is deferred. -/
theorem reset_free : ∀ q, State.reset.manager.deferred ≠ .resetEngine q := by
  intro q h
  cases h

/-! ## Well-formed commands -/

theorem test_wf_accepts_nine_arguments : (Instr.requestArrival (ask 9 (List.replicate 9 0))).wf = true := by decide

theorem test_wf_refuses_ten_arguments : (Instr.requestArrival (ask 9 (List.replicate 10 0))).wf = false := by decide

theorem test_wf_accepts_a_built_passback : (Instr.passbackReceived (buildFrame 9 0xF3 [1, 2])).wf = true := by decide +kernel

theorem test_wf_refuses_a_wrong_check :
    (Instr.passbackReceived { buildFrame 9 0xF3 [1, 2] with check := 0 }).wf = false := by decide +kernel

theorem test_wf_refuses_a_sample_as_passback : (Instr.passbackReceived (buildFrame 2 0xF3 [0, 0, 0, 0, 0])).wf = false := by
  decide +kernel

theorem test_wf_refuses_256_payload_bytes : (Instr.passbackReceived ⟨9, 0xF3, List.replicate 256 0, 0⟩).wf = false := by
  decide +kernel

/-! ## The frame check and the layouts -/

/-- The check of the nine digits is the published one of this generator and start value. -/
theorem test_check_of_the_digits : checkOf [0x31, 0x32, 0x33, 0x34, 0x35, 0x36, 0x37, 0x38, 0x39] = 0x29B1 := by decide +kernel

theorem test_request_frame_bytes :
    (requestFrame (ask 1 [0x01020304])).payload = [7, 1, 1, 1, 2, 3, 4] ∧ (requestFrame (ask 1 [])).node = 0x03 := by decide

theorem test_sample_cell :
    Sample.cell { content := .value 0x8001 true, index := 127, markers := 5, setting := 9 } = 0xA6FF8001 := by decide

theorem test_missing_cell :
    Sample.cell { content := .missing .link, index := 2, markers := 7, setting := 15 } = 0x7F820003 := by decide

theorem test_a_frame_lasts_two_cycles_a_byte : sendCycles 3 = 18 := by decide

theorem test_no_word_spells_a_command : ∀ n w, decodeTableWord n w = none := by
  intro n w
  rfl

/-! ## One step of each command -/

theorem test_echo : answers (exec .echo (asking 1 [5] State.reset)) = [(.done, [5])] := by decide

theorem test_readStatus :
    (answers (exec .readStatus (asking 2 [] State.reset))).map (fun x => (x.2.length, x.2[9]?)) = [(36, some 8192)] := by
  decide

theorem test_setParameter : (after (exec .setParameter (asking 3 [1, 2000] State.reset))).params.sweepPeriod = 2000 := by
  decide

theorem test_setParameter_out_of_range :
    answers (exec .setParameter (asking 3 [1, 1] State.reset)) = [(.badValue, [])] := by decide

theorem test_getParameter : answers (exec .getParameter (asking 4 [9] State.reset)) = [(.done, [9, 40])] := by decide

theorem test_writeProgramEntry :
    (after (exec .writeProgramEntry (asking 5 [0, 2, 5, 1, 1] State.reset))).sweeper.program[0]? = some ⟨2, 5, 1, true⟩ := by
  decide

theorem test_readProgramEntry :
    answers (exec .readProgramEntry (asking 6 [1] State.reset)) = [(.done, [1, 0, 0, 0, 0, 0])] := by decide

theorem test_startRun :
    answers (exec (.startRun low) (asking 7 [] { linked with deliveryPort.link := ⟨.down, 0, 0⟩ })) = [(.done, [0, 2])] := by
  decide

theorem test_startRun_issues_entry_0 :
    ((after (exec (.startRun low) (asking 7 [] linked))).intake.lane =
      some (.convert { tag := 0, unit := 0, channel := 0, setting := 0 })) := by decide

theorem test_stopRun :
    (after (exec .stopRun (asking 8 [] (runs .running State.reset)))).sweeper.run = .stopped ∧
    (after (exec .stopRun (asking 8 [] (runs .running State.reset)))).notices.queue = [.runEnded .stopRequest] := by decide

theorem test_writeCondition :
    ((after (exec .writeCondition (asking 9 [0, 2, 0, 0, 100, 0, 0, 5, 1] State.reset))).trigger.conditions[0]?.map
      (fun c => (c.role, c.threshold, c.hysteresis))) = some (.fire, 100, 5) := by decide

theorem test_writeCondition_line_test_on_an_entry :
    answers (exec .writeCondition (asking 9 [0, 2, 0, 4, 0, 0, 0, 0, 1] State.reset)) = [(.badValue, [])] := by decide

theorem test_readCondition :
    answers (exec .readCondition (asking 10 [7] State.reset)) = [(.done, [7, 0, 0, 0, 0, 0, 0, 0, 1, 0, 0, 0])] := by decide

theorem test_forceTrigger :
    (after (exec .forceTrigger (asking 11 [] (captures .ready State.reset)))).trigger.forced = true := by decide

theorem test_arm : answers (exec .arm (asking 12 [] State.reset)) = [(.done, [0, 2, 166])] := by decide

theorem test_example_record_of_95_cells :
    ({ exampleProgram State.reset with
      params.pretriggerSweeps := 4, params.posttriggerSweeps := 8 } : State).fullRecord = 95 := by decide

theorem test_arm_reserves_the_header :
    (after (exec .arm (asking 12 [] State.reset))).memory.free = 8188 ∧
    (after (exec .arm (asking 12 [] State.reset))).capture.state = .filling := by decide

theorem test_disarm : answers (exec .disarm (asking 13 [] (captures .halted State.reset))) = [(.badState, [])] := by decide

theorem test_clearHalt :
    (after (exec .clearHalt (asking 14 [] (captures .halted State.reset)))).capture.state = .idle := by decide

theorem test_openWindow :
    (after (exec .openWindow (asking 15 [1, 65535, 255, 1] State.reset))).delivery.windowB =
      ⟨true, 65535, 0, 255, true, false⟩ := by decide

theorem test_closeWindow :
    (after (exec .closeWindow (asking 16 [0] (opened 32 State.reset)))).notices.queue = [.windowDone .a 9 0 true] ∧
    (after (exec .closeWindow (asking 16 [0] (opened 32 State.reset)))).delivery.current = .b := by decide

theorem test_discardRecord :
    (after (exec .discardRecord (asking 17 [2] (queues [queuedRecord 1, queuedRecord 2] State.reset)))).delivery.queue =
      [queuedRecord 1] := by decide

theorem test_readCounters :
    (answers (exec .readCounters (asking 18 [0] State.reset))).map (fun x => x.2.length) = [15] := by decide

theorem test_resetEngine :
    (after (exec .resetEngine (asking 19 [] State.reset))).manager.deferred = .resetEngine (ask 19 []) ∧
    (after (exec .resetEngine (asking 19 [] State.reset))).manager.resetHold = true := by decide

theorem test_unknownRequestKind :
    answers (exec .unknownRequestKind (asking 20 [] State.reset)) = [(.unknownRequest, [])] := by decide

theorem test_requestArrival : (after (exec (.requestArrival (ask 1 [5])) linked)).manager.requests = [ask 1 [5]] := by decide

theorem test_requestArrival_for_another_node :
    (after (exec (.requestArrival { ask 1 [5] with destination := 4 }) linked)).intake.lane =
      some (.forward { ask 1 [5] with destination := 4 }) := by decide

theorem test_sampleReceived :
    (after (exec (.sampleReceived ⟨0, 2, 5, 17, false, false⟩ low) (inFlight timing linked))).tracker.inFlight = [] ∧
    (after (exec (.sampleReceived ⟨0, 2, 5, 17, false, false⟩ low) (inFlight timing linked))).tracker.tags[0]? = some .free := by
  decide

theorem test_sampleReceived_from_another_channel :
    (after (exec (.sampleReceived ⟨0, 2, 6, 17, false, false⟩ low) (inFlight timing linked))).tracker.tags[0]? =
      some (.quarantined 40) := by decide

theorem test_passbackReceived :
    (after (exec (.passbackReceived (buildFrame 9 0xF3 [1])) linked)).deliveryPort.lane =
      some (.passback (buildFrame 9 0xF3 [1])) := by decide +kernel

theorem test_badFrame : (after (exec (.badFrame .intake low) linked)).counters.intakeBadFrames = 1 := by decide

theorem test_idleAlignmentSequence :
    (after (exec (.idleAlignmentSequence .delivery) State.reset)).deliveryPort.link = ⟨.aligning, 0, 0⟩ := by decide

theorem test_goodIdleGroup :
    (after (exec (.goodIdleGroup .intake) { State.reset with intake.link := ⟨.aligning, 3, 0⟩ })).notices.queue =
      [.intakeLinkChanged true] := by decide

theorem test_malformedIdleGroup :
    (after (exec (.malformedIdleGroup .delivery low) { linked with deliveryPort.link := ⟨.up, 4, 7⟩ })).deliveryPort.link =
      ⟨.down, 4, 8⟩ := by decide

theorem test_lossOfSignal :
    (after (exec (.lossOfSignal .intake low) { linked with deliveryPort.link := ⟨.down, 0, 0⟩ })).notices.queue =
      [.intakeLinkChanged false] := by decide

theorem test_pacerExpiry :
    (after (exec (.pacerExpiry low) (sweeping (runs .running { linked with sweeper.pacer := some 0 })))).counters.missedSweeps =
      1 := by decide

theorem test_sweepStartEdge :
    (after (exec (.sweepStartEdge true low) (runs .waitingLine linked))).sweeper.run = .burst := by decide

theorem test_spacingTimerExpiry :
    (after (exec (.spacingTimerExpiry low) { linked with tracker.spacing := some 0 })).tracker.spacing = none := by decide

theorem test_convertSent :
    ((after (exec .convertSent (inFlight { timing with remaining := none }
      { linked with intake.lane := some (.convert ⟨0, 2, 5, 1⟩) }))).tracker.inFlight.map (·.remaining)) = [some 40] := by
  decide

theorem test_requestTimeout :
    (after (exec (.requestTimeout 0 low) (inFlight timing linked))).counters.replyTimeouts = 1 := by decide

theorem test_quarantineExpiry :
    (after (exec (.quarantineExpiry 31 low) { linked with tracker.tags := List.replicate 32 (.quarantined 0) })).tracker.tags[31]? =
      some .free := by decide

theorem test_trigoutPulseExpiry :
    (after (exec .trigoutPulseExpiry
      { State.reset with trigger.trigout := true, trigger.pulse := some 0 })).trigger.trigout = false := by decide

theorem test_recordFrameEnd :
    (after (exec .recordFrameEnd (queues [queuedRecord 1] (opened 32 (sends (frame 5 true false) State.reset))))).delivery.queue =
      [] := by decide

theorem test_frameTransmissionEnd :
    (after (exec (.frameTransmissionEnd .intake) { linked with intake.lane := some (.forward (ask 1 [])) })).intake.lane =
      none := by decide

theorem test_resetEffects :
    (after (exec .resetEffects (defers (.resetEngine (ask 19 [])) State.reset))).tracker.tags[31]? =
      some (.quarantined 40) := by decide

theorem test_hardReset :
    (after (exec (.hardReset 15 true) linked)).manager.node = 0 ∧
    (after (exec (.hardReset 14 true) linked)).manager.node = 14 := by decide

theorem test_frameReceivedWhileAligning :
    (after (exec (.frameReceivedWhileAligning .intake true) { State.reset with intake.link := ⟨.aligning, 2, 0⟩ })).intake.link =
      ⟨.aligning, 3, 0⟩ := by decide

/-! ## Hypotheses met -/

theorem met_StepRunsTheFrontCommand :
    ({ State.reset with pending := [.echo, .arm] } : State).pending = .echo :: [.arm] := by decide

theorem met_EveryCommandAnswersNext : ∀ straps level, Instr.echo ≠ .hardReset straps level := by
  intro straps level h
  cases h

theorem met_TicksCountEveryTimerDown :
    let s (phase : Nat) : State := { State.reset with clock.phase := phase }
    (∀ phase, (s phase).pending = [] ∧ (s phase).resetDue = false ∧ (s phase).eventsDue = []) ∧
    (s 23).clock.phase + 1 < 25 ∧ 25 ≤ (s 24).clock.phase + 1 := by
  refine ⟨fun phase => ⟨rfl, rfl, rfl⟩, ?_, ?_⟩ <;> decide

theorem met_TicksCountEveryTimerDown_due :
    let resets := defers (.resetEngine (ask 19 [])) linked
    let due : State :=
      asking 7 [] (inFlight { timing with remaining := some 0 } { linked with sweeper.pacer := some 0 })
    (resets.pending = [] ∧ resets.resetDue = true) ∧ (due.pending = [] ∧ due.resetDue = false) ∧
    due.eventsDue = [.startRun low, .pacerExpiry low, .requestTimeout 0 low] := by decide

/-- Of two requests whose time runs out at one tick the older completes first (R27). -/
theorem test_the_oldest_request_times_out_first :
    ({ linked with
      tracker.inFlight := [{ timing with tag := 9, remaining := some 0 }, { timing with tag := 2, remaining := some 0 }] } :
        State).eventsDue = [.requestTimeout 9 low] := by decide

theorem met_ArbitersActAfterEveryCommand : ∃ t, exec .echo linked = .next t := ⟨_, rfl⟩

/-- The invariants hold, and a step is taken, with both links UP. -/
theorem met_the_invariants : Inv linked ∧ ∃ t, step linked = .next t := by
  refine ⟨?_, _, rfl⟩
  constructor
  · constructor <;> decide
  · constructor <;> decide
  · refine ⟨⟨?_, ?_, ?_, ?_⟩, ⟨?_, ?_, ?_, ?_⟩, ?_, ?_, ?_, ?_⟩ <;> decide
  · constructor <;> simp [linked, State.reset, State.afterReset]
  · constructor <;>
      simp [linked, State.reset, State.afterReset, UpFrame.convertTags, Params.defaults, List.getElem?_replicate,
        -List.reduceReplicate]
  · refine ⟨⟨?_, ?_, ?_⟩, ⟨?_, ?_, ?_⟩, ?_, ?_, ?_, ?_, ?_, ?_, ?_⟩ <;>
      simp [linked, State.reset, State.afterReset, Window.reset, State.frameUnderWay, DeliveryUnit.window]
  · constructor <;> simp [linked, State.reset, State.afterReset, CaptureState.armed, CaptureController.openCount]
  · rfl
  · constructor <;> simp [linked, State.reset, State.afterReset]
  · exact ⟨List.length_replicate, List.length_replicate⟩
  · refine ⟨?_, ?_, ?_, ?_, ?_, ?_, ?_, ?_⟩
    · intro c hc
      rw [List.eq_of_mem_replicate hc]
      constructor <;> simp [Condition.reset, Test.forLine, Source.isLine]
    all_goals simp [linked, State.reset, State.afterReset, CaptureState.armed, Params.defaults]

/-- The head record, part of it sent, and one behind it, hold the cells their headers count. -/
theorem met_EveryCellIsInOneHolding_records :
    RecordsInv { queues [{ queuedRecord 1 with cells := [0, 9] }, queuedRecord 2] linked with delivery.position := 3 } := by
  constructor <;> simp [queues, queuedRecord]

/-- The Trigger Unit agrees in POST with TRIGOUT in LEVEL and high, the conditions as reset leaves them. -/
theorem met_RunStateAgreesWithTheSweep_level :
    let s : State := { captures .post linked with params.trigoutMode := .level, trigger.trigout := true }
    TriggerInv s ∧ TablesInv s := by
  refine ⟨⟨?_, ?_, ?_, ?_, ?_, ?_, ?_, ?_⟩, List.length_replicate, List.length_replicate⟩
  · exact met_the_invariants.1.trigger.conditions
  all_goals simp [captures, linked, State.reset, State.afterReset, CaptureState.armed]

theorem met_EchoReturnsItsArgument :
    Executes (asking 1 [5] State.reset) (ask 1 [5]) [] ∧ (ask 1 [5]).kind = 1 ∧ (ask 1 [5]).args = [5] :=
  ⟨asking_executes _ _ _ reset_free, rfl, rfl⟩

theorem met_StatusReportCarriesTheState :
    Executes (asking 2 [] State.reset) (ask 2 []) [] ∧ (ask 2 []).kind = 2 ∧ (ask 2 []).args = [] :=
  ⟨asking_executes _ _ _ reset_free, rfl, rfl⟩

theorem met_SetParameterChecksThenPutsInForce :
    (∀ code v, Executes (asking 3 [code, v] State.reset) (ask 3 [code, v]) [] ∧ (ask 3 [code, v]).kind = 3) ∧
    (0 : Word).toNat = 0 ∧ 16 < (17 : Word).toNat ∧
    argParam 2 = some .startMode ∧ ¬ Param.startMode.writtenWhile (runs .running State.reset) ∧
    argParam 1 = some .sweepPeriod ∧ Param.sweepPeriod.writtenWhile State.reset ∧ ¬ Param.sweepPeriod.admits 1 ∧
    Param.sweepPeriod.admits 2 ∧ Param.sweepPeriod.admits 16777215 ∧ ¬ Param.sweepPeriod.admits 16777216 ∧
    Param.sweepPeriod ≠ .trigoutMode ∧ State.reset.params.trigoutMode ≠ .pulse ∧
    ({ State.reset with params.trigoutMode := .pulse } : State).params.trigoutMode = .pulse := by
  refine ⟨fun code v => ⟨asking_executes _ _ _ reset_free, rfl⟩, ?_, ?_, ?_, ?_, ?_, ?_, ?_, ?_, ?_, ?_, ?_, ?_, ?_⟩ <;>
    simp [Param.writtenWhile, Param.admits, Param.range, argParam, runs, State.reset, State.afterReset, Params.defaults]

/-- The first and the last code of the table, and one between. -/
theorem met_SetParameterChecksThenPutsInForce_codes :
    argParam 1 = some .sweepPeriod ∧ argParam 9 = some .replyTimeout ∧ argParam 16 = some .trigoutMode ∧
    Param.replyTimeout.writtenWhile State.reset ∧ Param.replyTimeout.admits 1023 := by
  refine ⟨by decide, by decide, by decide, rfl, ?_⟩
  constructor <;> decide

theorem met_GetParameterReturnsTheValueInForce :
    (∀ code, Executes (asking 4 [code] State.reset) (ask 4 [code]) [] ∧ (ask 4 [code]).args = [code]) ∧
    ((0 : Word).toNat = 0 ∧ 16 < (17 : Word).toNat) ∧ (1 ≤ (1 : Word).toNat ∧ (16 : Word).toNat ≤ 16) :=
  ⟨fun _ => ⟨asking_executes _ _ _ reset_free, rfl⟩, by decide, by decide⟩

theorem met_ProgramEntriesAreWrittenAndRead :
    (∀ args, Executes (asking 5 args State.reset) (ask 5 args) []) ∧
    (∀ args, Executes (asking 6 args State.reset) (ask 6 args) []) ∧
    (asking 5 [127, 15, 15, 15, 1] (runs .running State.reset)).sweeper.run ≠ .stopped ∧
    State.reset.sweeper.run = .stopped ∧ ¬ (128 : Word).toNat ≤ 127 ∧ ¬ (16 : Word).toNat ≤ 15 ∧ ¬ (2 : Word).toNat ≤ 1 ∧
    ((127 : Word).toNat ≤ 127 ∧ (15 : Word).toNat ≤ 15 ∧ (1 : Word).toNat ≤ 1) ∧
    State.reset.sweeper.program[127]? = some ⟨0, 0, 0, false⟩ :=
  ⟨fun _ => asking_executes _ _ _ reset_free, fun _ => asking_executes _ _ _ reset_free, by decide, by decide, by decide,
    by decide, by decide, by decide, by decide⟩

theorem met_StartRunChecksThenOpensTheRun :
    (∀ s : State, (∀ q, s.manager.deferred ≠ .resetEngine q) → Executes (asking 7 [] s) (ask 7 []) []) ∧
    (runs .running State.reset).sweeper.run ≠ .stopped ∧ (captures .halted State.reset).capture.state = .halted ∧
    (∃ c ∈ ({ State.reset with
        trigger.conditions := [{ Condition.reset with role := .fire, source := .entry 1 }] } : State).trigger.conditions,
      c.role ≠ .off ∧ ∃ i, c.source = .entry i ∧ State.reset.params.programLength ≤ i) ∧
    (∀ c ∈ State.reset.trigger.conditions, c.role ≠ .off → ∀ i, c.source = .entry i → i < State.reset.params.programLength) ∧
    State.reset.params.startMode = .freeRun ∧
    ({ State.reset with params.startMode := .lineStart } : State).params.startMode = .lineStart := by
  refine ⟨fun s h => asking_executes _ _ _ h, by decide, by decide, ?_, ?_, by decide, by decide⟩
  · exact ⟨_, List.mem_singleton.mpr rfl, by decide, 1, rfl, by decide⟩
  · intro c hc hr
    exact absurd (by rw [List.eq_of_mem_replicate hc]; rfl) hr

theorem met_StopRunActsByRunState :
    Executes (asking 8 [] linked) (ask 8 []) [] ∧
    linked.sweeper.run = .stopped ∧
    ((runs .waitingLine linked).sweeper.run = .waitingLine) ∧
    ((runs .running linked).sweeper.run = .running ∧ (runs .running linked).sweeper.sweep = none) ∧
    ((sweeping (runs .burst linked)).sweeper.run = .burst ∧ (sweeping (runs .burst linked)).sweeper.sweep ≠ none ∧
      (sweeping (runs .burst linked)).manager.deferred = .empty) ∧
    ((sweeping (runs .stopping linked)).sweeper.run = .stopping ∧
      (defers (.stopRun (ask 8 [])) (sweeping (runs .stopping linked))).manager.deferred ≠ .empty ∧
      Executes (asking 8 [] (defers (.stopRun (ask 8 [])) (sweeping (runs .stopping linked)))) (ask 8 []) []) := by
  refine ⟨asking_executes _ _ _ reset_free, by decide, by decide, by decide, by decide, by decide, by decide, ?_⟩
  exact asking_executes _ _ _ (by
    intro q h
    cases h)

theorem met_WriteConditionReplacesTheCondition :
    (∀ args, Executes (asking 9 args State.reset) (ask 9 args) []) ∧
    ¬ ((captures .post State.reset).capture.state = .idle ∨ (captures .post State.reset).capture.state = .halted) ∧
    ¬ ConditionArgs 1 8 2 0 0 0 0 0 0 1 ∧ ¬ ConditionArgs 1 7 2 1 0 0 0 0 0 1 ∧ ¬ ConditionArgs 1 7 2 0 0 0 1 0 0 1 ∧
    ConditionArgs 1 7 2 0 3 (-32768) (-32768) 32767 4095 16 ∧ ConditionArgs 1 0 1 257 5 32767 0 0 0 1 := by
  refine ⟨fun _ => asking_executes _ _ _ reset_free, by decide, fun h => absurd h.number (by decide),
    fun h => absurd (h.inUse (by decide)) (by decide), fun h => absurd h.band (by decide), ?_, ?_⟩ <;>
    constructor <;> decide

/-- The source code 256 is a line, though an entry's place of that number would have the same word. -/
theorem test_writeCondition_source_256 :
    ((after (exec .writeCondition (asking 9 [0, 2, 256, 4, 0, 0, 0, 0, 1] State.reset))).trigger.conditions[0]?.map
      (·.source)) = some .trig0 := by decide

theorem met_ReadConditionReturnsTheCondition :
    (∀ n, Executes (asking 10 [n] State.reset) (ask 10 [n]) []) ∧ 7 < (8 : Word).toNat ∧ (7 : Word).toNat ≤ 7 ∧
    State.reset.trigger.conditions[(7 : Word).toNat]? = some Condition.reset :=
  ⟨fun _ => asking_executes _ _ _ reset_free, by decide, by decide, by decide⟩

theorem met_ForceTriggerSetsTheFlagWhileArmed :
    (∀ c, Executes (asking 11 [] (captures c State.reset)) (ask 11 []) []) ∧
    (captures .filling State.reset).capture.state = .filling ∧ (captures .post State.reset).capture.state = .post :=
  ⟨fun _ => asking_executes _ _ _ reset_free, by decide, by decide⟩

theorem met_ArmChecksThenArms :
    let long : State := { State.reset with params.posttriggerSweeps := 4078 }
    let longer : State := { State.reset with params.posttriggerSweeps := 4077 }
    let scarce : State := { State.reset with memory.free := 3 }
    let enough : State := { State.reset with memory.free := 4 }
    let full : State := queues (List.replicate 16 (queuedRecord 1)) State.reset
    (∀ s : State, (∀ q, s.manager.deferred ≠ .resetEngine q) → Executes (asking 12 [] s) (ask 12 []) []) ∧
    (captures .ready State.reset).capture.state ≠ .idle ∧
    8192 < long.fullRecord ∧ longer.fullRecord ≤ 8192 ∧ scarce.memory.free < 4 ∧ 4 ≤ enough.memory.free ∧
    16 ≤ full.delivery.queue.length ∧ State.reset.delivery.queue.length < 16 ∧ State.reset.memory.history = [] :=
  ⟨fun _ h => asking_executes _ _ _ h, by decide, by decide, by decide, by decide, by decide, by decide, by decide, by decide⟩

theorem met_DisarmActsByCaptureState :
    (∀ c, Executes (asking 13 [] (captures c State.reset)) (ask 13 []) []) ∧
    State.reset.capture.state = .idle ∧ (captures .filling State.reset).capture.state = .filling ∧
    (captures .post State.reset).capture.state = .post ∧ (captures .halted State.reset).capture.state = .halted :=
  ⟨fun _ => asking_executes _ _ _ reset_free, by decide, by decide, by decide, by decide⟩

theorem met_ClearHaltNeedsTheRunStopped :
    (∀ c, Executes (asking 14 [] (captures c State.reset)) (ask 14 []) []) ∧
    ((captures .halted State.reset).capture.state = .halted ∧ (captures .halted State.reset).sweeper.run = .stopped) ∧
    (runs .stopping (captures .halted State.reset)).sweeper.run ≠ .stopped :=
  ⟨fun _ => asking_executes _ _ _ reset_free, by decide, by decide⟩

theorem met_OpenWindowOpensAClosedWindow :
    (∀ args, Executes (asking 15 args State.reset) (ask 15 args) []) ∧
    ¬ (2 : Word).toNat ≤ 1 ∧ ¬ 1 ≤ (0 : Word).toNat ∧ ¬ (65536 : Word).toNat ≤ 65535 ∧ ¬ (256 : Word).toNat ≤ 255 ∧
    ((1 : Word).toNat ≤ 1 ∧ 1 ≤ (65535 : Word).toNat ∧ (65535 : Word).toNat ≤ 65535 ∧ (255 : Word).toNat ≤ 255) ∧
    (opened 1 State.reset).delivery.windowA.opened = true ∧ State.reset.delivery.windowB.opened = false :=
  ⟨fun _ => asking_executes _ _ _ reset_free, by decide, by decide, by decide, by decide, by decide, by decide, by decide⟩

theorem met_CloseWindowActsByTheWindow :
    let busy : State := queues [queuedRecord 1] (opened 32 (sends (frame 5 true false) State.reset))
    (∀ arg, Executes (asking 16 [arg] busy) (ask 16 [arg]) []) ∧ 1 < (2 : Word).toNat ∧
    (0 : Word) = word WindowId.a.code ∧ (1 : Word) = word WindowId.b.code ∧
    (busy.delivery.window .a).opened = true ∧ busy.delivery.current = .a ∧ busy.frameUnderWay ≠ none ∧
    (opened 32 State.reset).frameUnderWay = none ∧ (busy.delivery.window .b).opened = false ∧
    (∃ s : State, (s.delivery.window .b).opened = true ∧ WindowId.b ≠ s.delivery.current) := by
  refine ⟨fun _ => asking_executes _ _ _ reset_free, by decide, by decide, by decide, by decide, by decide, by decide,
    by decide, by decide, { State.reset with delivery.windowB := ⟨true, 1, 0, 0, false, false⟩ }, by decide, by decide⟩

theorem met_DiscardRecordFreesWhatIsNotSent :
    let two : State := queues [queuedRecord 1, queuedRecord 2] (opened 64 State.reset)
    (∀ (s : State) arg, (∀ q, s.manager.deferred ≠ .resetEngine q) → Executes (asking 17 [arg] s) (ask 17 [arg]) []) ∧
    65535 < (65536 : Word).toNat ∧ (65535 : Word).toNat ≤ 65535 ∧
    (∀ q ∈ two.delivery.queue, q.header.id ≠ (3 : Word).setWidth 16) ∧
    (two.delivery.queue = [queuedRecord 1] ++ queuedRecord 2 :: [] ∧ two.delivery.queue = [] ++ queuedRecord 1 :: [queuedRecord 2]) ∧
    (two.frameUnderWay = none ∧ ¬ 0 < two.delivery.position) ∧
    (sends (frame 5 true false) two).frameUnderWay = some (frame 5 true false) ∧
    (sends (frame 4 false false) two).frameUnderWay = some (frame 4 false false) ∧
    0 < ({ two with delivery.position := 1 } : State).delivery.position :=
  ⟨fun _ _ h => asking_executes _ _ _ h, by decide, by decide, by decide, by decide, by decide, by decide, by decide, by decide⟩

theorem met_ReadCountersCarriesThemAll :
    (∀ arg, Executes (asking 18 [arg] State.reset) (ask 18 [arg]) []) ∧ 1 < (2 : Word).toNat :=
  ⟨fun _ => asking_executes _ _ _ reset_free, by decide⟩

theorem met_ResetEngineEntersTheSlot :
    Executes (asking 19 [] State.reset) (ask 19 []) [] ∧ State.reset.manager.deferred = .empty ∧
    Executes (asking 19 [] (defers (.stopRun (ask 8 [])) State.reset)) (ask 19 []) [] :=
  ⟨asking_executes _ _ _ reset_free, by decide, asking_executes _ _ _ (by
    intro q h
    cases h)⟩

theorem met_UnknownKindsAndWrongCountsAreRefused :
    (∀ kind args, Executes (asking kind args State.reset) (ask kind args) []) ∧ 19 < (20 : Byte).toNat ∧
    (1 ≤ (1 : Byte).toNat ∧ (19 : Byte).toNat ≤ 19) ∧ (ask 1 []).args.length ≠ argCount 1 ∧ (ask 19 [0]).args.length ≠ argCount 19 :=
  ⟨fun _ _ => asking_executes _ _ _ reset_free, by decide, by decide, by decide, by decide⟩

theorem met_UnknownKindsAndWrongCountsAreRefused_no_request :
    (∀ r rest, Executes (asking 1 [] State.reset) r rest → r.kind ≠ 2) ∧
    (∀ r rest, Executes State.reset r rest → 1 ≤ r.kind.toNat ∧ r.kind.toNat ≤ 19) := by
  constructor
  · rintro r rest ⟨h, _⟩
    cases h
    decide
  · rintro r rest ⟨h, _⟩
    cases h

/-- The first and the last kind of the catalogue, and the kinds beside them. -/
theorem test_request_commands_at_the_bounds :
    requestCommand 0 low = .unknownRequestKind ∧ requestCommand 1 low = .echo ∧ requestCommand 19 low = .resetEngine ∧
    requestCommand 20 low = .unknownRequestKind := by decide

theorem met_RequestsAreClassedByDestination :
    (ask 9 (List.replicate 9 0)).args.length ≤ 9 ∧ linked.deliveryPort.link.state = .up ∧
    (ask 1 []).destination = linked.manager.node ∧ ({ ask 1 [] with destination := 15 } : Request).destination ≠ linked.manager.node ∧
    ({ linked with intake.link := ⟨.aligning, 0, 0⟩ } : State).intake.link.state ≠ .up ∧
    4 ≤ ({ linked with intake.forward := List.replicate 4 (ask 1 []) } : State).intake.forward.length ∧
    ({ linked with intake.forward := List.replicate 3 (ask 1 []) } : State).intake.forward.length < 4 := by decide

theorem met_RepliesAreMatchedByTag :
    let s := inFlight timing linked
    linked.intake.link.state = .up ∧ linked.tracker.tags[(32 : Byte).toNat]? = none ∧
    linked.tracker.tags[(31 : Byte).toNat]? = some .free ∧
    ({ linked with tracker.tags := List.replicate 32 (.quarantined 1) } : State).tracker.tags[(31 : Byte).toNat]? =
      some (.quarantined 1) ∧
    s.tracker.tags[(0 : Byte).toNat]? = some .inFlight ∧
    s.tracker.inFlight.find? (fun e => e.tag == (0 : Byte).toNat) = some timing ∧ timing.remaining ≠ none ∧
    (inFlight { timing with remaining := none } linked).tracker.inFlight.find? (fun e => e.tag == (0 : Byte).toNat) =
      some { timing with remaining := none } := by decide

theorem met_PassbackJoinsOrIsCounted :
    let f := buildFrame 9 0xF3 [1]
    f.payload.length ≤ 255 ∧ f.check = checkOf f.covered ∧ f.kind ≠ 2 ∧ linked.intake.link.state = .up ∧
    ({ linked with deliveryPort.passback := List.replicate 3 f } : State).deliveryPort.passback.length < 4 ∧
    4 ≤ ({ linked with deliveryPort.passback := List.replicate 4 f } : State).deliveryPort.passback.length := by
  decide +kernel

theorem met_LinksFollowTheirTable :
    (({ State.reset with intake.link := ⟨.aligning, 3, 0⟩ } : State).link .intake).state = .aligning ∧
    ¬ (linked.intake.link.state = .up ∧ (⟨.up, 4, 1⟩ : Link).state = .down) ∧
    ¬ (State.reset.deliveryPort.link.state = .up ∧ (⟨.down, 0, 0⟩ : Link).state = .down) ∧
    (linked.link .delivery).state ≠ .aligning ∧ State.reset.intake.link.state ≠ .up ∧ State.reset.deliveryPort.link.state ≠ .up := by
  decide

theorem met_LinkDropsTakeTheirSteps :
    linked.intake.link.state = .up ∧ linked.deliveryPort.link.state = .up ∧ (⟨.down, 4, 8⟩ : Link).state = .down ∧
    ({ linked with intake.lane := some (.convert ⟨0, 2, 5, 1⟩) } : State).intake.lane = some (.convert ⟨0, 2, 5, 1⟩) ∧
    (∀ f, linked.intake.lane ≠ some (.convert f)) ∧ linked.frameUnderWay = none ∧
    (sends (frame 5 true false) linked).frameUnderWay = some (frame 5 true false) := by
  refine ⟨by decide, by decide, by decide, by decide, ?_, by decide, by decide⟩
  intro f h
  cases h

theorem met_PacerExpiryStartsOrMissesASweep :
    let s : State := { linked with sweeper.pacer := some 0 }
    (runs .running s).sweeper.pacer ≠ none ∧ (runs .running s).sweeper.run = .running ∧
    (runs .running s).sweeper.sweep = none ∧ (sweeping (runs .running s)).sweeper.sweep ≠ none ∧
    (runs .burst s).sweeper.run = .burst ∧ (sweeping (runs .burst s)).sweeper.sweep ≠ none := by decide

theorem met_StartEdgesActByRunState :
    true ≠ linked.sweeper.startLevel ∧ (true = true ↔ linked.params.startEdge = .rising) ∧
    ¬ (true = true ↔ ({ linked with params.startEdge := .falling } : State).params.startEdge = .rising) ∧
    (runs .waitingLine linked).sweeper.run = .waitingLine ∧ (runs .stopping linked).sweeper.run = .stopping ∧
    linked.sweeper.run = .stopped := by decide

theorem met_ExpiriesAndFrameEndsTakeEffect :
    ({ linked with tracker.spacing := some 0 } : State).tracker.spacing ≠ none ∧
    ({ linked with tracker.tags := List.replicate 32 (.quarantined 0) } : State).tracker.tags[(31 : Fin 32).val]? =
      some (.quarantined 0) ∧
    ({ linked with trigger.pulse := some 0 } : State).trigger.pulse ≠ none ∧
    ({ linked with intake.lane := some (.convert ⟨0, 2, 5, 1⟩) } : State).intake.lane = some (.convert ⟨0, 2, 5, 1⟩) ∧
    ({ linked with intake.lane := some (.forward (ask 1 [])) } : State).intake.lane = some (.forward (ask 1 [])) ∧
    ({ linked with deliveryPort.lane := some (.notice (.halted .noSpace) 0) } : State).deliveryPort.lane ≠ none ∧
    ({ linked with deliveryPort.lane := some (.notice (.halted .noSpace) 0) } : State).frameUnderWay = none := by decide

theorem met_ExpiriesAndFrameEndsTakeEffect_not_occurring :
    let s : State := inFlight { timing with remaining := none } linked
    s.sweeper.pacer = none ∧ (runs .stopping linked).sweeper.run = .stopping ∧ s.tracker.spacing = none ∧
    (∀ e, s.tracker.inFlight.find? (fun x => x.tag == (0 : Fin 32).val) = some e → e.remaining = none) ∧
    (∀ n, s.tracker.tags[(0 : Fin 32).val]? ≠ some (.quarantined n)) ∧ s.trigger.pulse = none ∧ s.intake.lane = none ∧
    s.deliveryPort.lane = none ∧ (sends (frame 5 true false) s).frameUnderWay ≠ none ∧
    (∀ r, s.manager.deferred ≠ .resetEngine r) ∧ (sends (frame 5 true false) s).deliveryPort.lane ≠ none := by
  refine ⟨by decide, by decide, by decide, ?_, ?_, by decide, by decide, by decide, by decide, ?_, by decide⟩
  · intro e h
    cases h
    rfl
  · intro n h
    cases h
  · intro r h
    cases h

theorem met_TimeoutQuarantinesTheTag :
    (inFlight timing linked).tracker.inFlight.find? (fun x => x.tag == (0 : Fin 32).val) = some timing ∧
    timing.remaining ≠ none := by decide

theorem met_RecordFrameEndFollowsItsSteps :
    let s : State := queues [queuedRecord 1] (opened 32 State.reset)
    (sends (frame 0 true true) s).deliveryPort.lane = some (.record (frame 0 true true)) ∧
    (frame 0 true true).abandoned = true ∧ (frame 5 true false).abandoned = false ∧
    (sends (frame 5 true false) s).delivery.queue = queuedRecord 1 :: [] ∧ (frame 5 true false).last = true ∧
    (frame 4 false false).last = false ∧ (queuedRecord 1).discarded = false ∧
    (queues [{ queuedRecord 1 with discarded := true }] (sends (frame 4 false false) s)).delivery.queue =
      { queuedRecord 1 with discarded := true } :: [] := by decide

theorem met_ResetEffectsActInEveryBlock :
    let s := defers (.resetEngine (ask 19 [])) linked
    s.manager.deferred = .resetEngine (ask 19 []) ∧ s.intake.lane = none ∧ s.deliveryPort.lane = none := by decide

theorem met_SweepStartTakesItsSteps :
    linked.intake.link.state = .up ∧ State.reset.intake.link.state ≠ .up ∧
    (({ State.reset with params.sweepLimit := 1 } : State).params.sweepLimit ≠ 0 ∧
      (State.reset.sweeper.sweepNumber + 1).toNat = 1) := by decide

theorem met_BlockRequestDropsNoMoreThanNeeded :
    State.reset.capture.state = .idle ∧ (captures .filling State.reset).capture.state = .filling ∧
    (captures .ready State.reset).capture.state = .ready ∧ (captures .post State.reset).capture.state = .post := by decide

theorem met_IssueTakesTheNextFreeTag :
    let one : List TagState := (List.replicate 32 .inFlight).set 31 .free
    let s : State := { linked with tracker.cursor := some 0, params.entrySpacing := 1 }
    one.length = 32 ∧ chooseTag one 30 = some 31 ∧ chooseTag one 31 = some 31 ∧
    chooseTag (List.replicate 32 .inFlight) 31 = none ∧ s.params.entrySpacing ≠ 0 ∧ s.tracker.cursor = some 0 ∧
    s.sweeper.program[0]? = some ⟨0, 0, 0, false⟩ ∧
    (s.intake.link.state = .up ∧ s.tracker.spacing = none ∧ s.tracker.inFlight.length < s.params.inflightLimit) ∧
    chooseTag s.tracker.tags s.tracker.lastTag = some 0 ∧
    readyToIssue s = some (0, 0) ∧ readyToIssue { s with tracker.spacing := some 1 } = none ∧
    readyToIssue { s with params.inflightLimit := 0 } = none := by decide

theorem met_IssueTakesTheNextFreeTag_at_once :
    let s : State := { linked with tracker.cursor := some 127, params.programLength := 128 }
    s.params.programLength ≤ 128 ∧ s.params.entrySpacing = 0 ∧ readyToIssue s = some (127, 0) ∧
      ∀ j, s.tracker.cursor = some j → j < s.params.programLength := by
  refine ⟨by decide, by decide, by decide, ?_⟩
  intro j h
  cases h
  decide

theorem met_NothingIsLeftToIssue :
    let s : State := { linked with tracker.cursor := some 127, params.programLength := 128 }
    linked.tracker.cursor = none ∧ s.tracker.cursor = some 127 ∧ s.params.programLength ≤ 128 ∧
      ∀ i, s.tracker.cursor = some i → i < s.params.programLength := by
  refine ⟨by decide, by decide, by decide, ?_⟩
  intro i h
  cases h
  decide

theorem met_CompletedRequestHandsItsSampleOver :
    let e : InFlight := { timing with index := 127, remaining := none }
    State.reset.sweeper.program[e.index]? = some ⟨0, 0, 0, false⟩ ∧
    (inFlight e State.reset).tracker.inFlight.find? (fun x => x.tag == (⟨0, 2, 5, 1⟩ : ConvertFrame).tag) = some e := by decide

theorem met_SweepCompletionTakesItsSteps_test :
    let s := sweeping (runs .running State.reset)
    (s.sweeper.sweep = some ⟨1, 0, false⟩ ∧ s.tracker.cursor = none ∧ s.tracker.inFlight = []) ∧
    (inFlight timing s).tracker.inFlight ≠ [] ∧ ∀ q, State.reset.sweeper.sweep ≠ some q := by
  refine ⟨by decide, by decide, ?_⟩
  intro q h
  cases h

theorem met_SweepCompletionTakesItsSteps :
    let s (run : RunState) (n : Nat) : State := sweeping { runs run State.reset with sweeper.burstCount := n }
    let a (run : RunState) (n : Nat) : State := receiveCompleted (s run n).trigger.verdict 1
      { s run n with sweeper.sweep := none, trigger.forced := false }
    let stopping := { a .stopping 0 with sweeper.endCause := some EndCause.limit }
    (a .running 0).sweeper.run = .running ∧ ((a .burst 1).sweeper.run = .burst ∧ 0 < (a .burst 1).sweeper.burstCount) ∧
    ((a .burst 0).sweeper.run = .burst ∧ (a .burst 0).sweeper.burstCount = 0) ∧
    (stopping.sweeper.run = .stopping ∧ stopping.sweeper.endCause = some .limit) ∧
    (defers (.stopRun (ask 8 [])) stopping).manager.deferred = .stopRun (ask 8 []) ∧
    stopping.manager.deferred = .empty := by decide

theorem met_EvaluationFollowsTheReadinessTable :
    (-32768 ≤ (32767 : Int) ∧ (32767 : Int) ≤ 32767) ∧ (Condition.reset.test ≠ .high ∧ Condition.reset.test ≠ .low) ∧
    Condition.reset.hysteresis = 0 ∧ Condition.reset.low.toInt ≤ Condition.reset.high.toInt ∧
    Condition.reset.readiness = .unknown ∧
    ({ Condition.reset with readiness := .ready } : Condition).runCount + 1 = Condition.reset.qualifyCount ∧
    ({ Condition.reset with qualifyCount := 16 } : Condition).runCount + 1 ≠ 16 ∧
    ({ Condition.reset with readiness := .spent } : Condition).readiness = .spent ∧
    (let c : Condition := { Condition.reset with threshold := -32768, low := -32768, high := 32767, hysteresis := 65535 }
    c.test = .above ∧ ({ c with test := .below } : Condition).rereadyBy 32767 = true ∧
      ({ c with test := .inside } : Condition).satisfiedBy 32767 = true ∧
      ({ c with test := .outside } : Condition).rereadyBy 0 = false) := by decide

theorem met_EvaluationFollowsTheReadinessTable_lines :
    let c : Condition := { Condition.reset with role := .fire, source := .trig1, test := .high }
    c.role ≠ .off ∧ c.source = .trig1 ∧ c.test = .high ∧ ({ c with test := .low } : Condition).test = .low ∧
    ({ c with source := .trig0 } : Condition).source = .trig0 ∧ Condition.reset.role = .off ∧
    Condition.reset.source = .entry 0 := by decide

theorem met_VerdictIsTheFirstCaseThatHolds :
    let t : TriggerUnit := { State.reset.trigger with
      conditions := [{ Condition.reset with fired := some .qualify }, { Condition.reset with fired := some .fire }] }
    ({ t with forced := true } : TriggerUnit).forced = true ∧ t.forced = false ∧ t.stage = .openStage ∧
    t.conditions[1]?.map (·.fired) = some (some .fire) ∧ t.conditions[0]?.map (·.fired) ≠ some (some .fire) ∧
    (∃ c ∈ t.conditions, c.fired = some .qualify) ∧ (∀ c ∈ State.reset.trigger.conditions, c.fired = none) := by decide

theorem met_CompletedSweepsGoByCaptureState :
    let block : Block := ⟨1, 0, false, false, []⟩
    let o : OpenRecord := { id := 0, cause := .force, shortHead := false, headLost := false, s := 0, triggerSweep := 1,
                            preBlocks := 0, postRemaining := 1, blocks := [] }
    let s : State := captures .filling State.reset
    State.reset.capture.state = .idle ∧ s.capture.state = .filling ∧
    ({ s with params.earlyAccept := true } : State).params.earlyAccept = true ∧
    ¬ (s.capture.state = .ready ∨ s.params.earlyAccept = true) ∧
    ({ s with memory.current := some block } : State).memory.current = some block ∧ s.memory.current = none ∧
    (captures .post { s with capture.openRecord := some o }).capture.openRecord = some o ∧
    (captures .post s).capture.state = .post := by decide

theorem met_RecordClosesIntoTheQueue :
    let o : OpenRecord := { id := 0, cause := .force, shortHead := false, headLost := false, s := 0, triggerSweep := 1,
                            preBlocks := 0, postRemaining := 1, blocks := [] }
    ({ State.reset with capture.openRecord := some o } : State).capture.openRecord = some o ∧
    (captures .post State.reset).capture.state = .post ∧ (captures .halted State.reset).capture.state ≠ .post := by decide

theorem met_QuotaPathRearmsOrHalts :
    0 < ({ State.reset with capture.quota := 1 } : State).capture.quota ∧ State.reset.capture.quota = 0 ∧
    ({ State.reset with params.quotaRepeat := true } : State).params.quotaRepeat = true ∧
    State.reset.params.quotaRepeat = false ∧ State.reset.sweeper.run = .stopped ∧
    ((sweeping (runs .burst linked)).sweeper.run = .burst ∧ (sweeping (runs .burst linked)).sweeper.sweep ≠ none) ∧
    ((runs .running linked).sweeper.run = .running ∧ (runs .running linked).sweeper.sweep = none) := by decide

theorem met_NoticesJoinOrAreCounted :
    let n : Notice := .halted .noSpace
    ({ State.reset with notices.queue := List.replicate 7 n } : State).notices.queue.length < 8 ∧
    8 ≤ ({ State.reset with notices.queue := List.replicate 8 n } : State).notices.queue.length := by decide

theorem met_RecordFramesAreOfferedAndBuilt :
    let s : State := queues [queuedRecord 1] (opened 4 linked)
    s.offersRecord = true ∧ s.delivery.note = none ∧ s.delivery.queue = queuedRecord 1 :: [] ∧
    ({ s with delivery.note := some ⟨1, 5⟩ } : State).delivery.note = some ⟨1, 5⟩ ∧
    (s.delivery.nextFrame.map (fun f => (f.payload.length, f.first, f.last))) = some (4, true, false) := by decide

theorem met_RecordFramesAreOfferedAndBuilt_records :
    let s : State := { queues [{ queuedRecord 1 with cells := [0, 9] }] linked with delivery.position := 3 }
    RecordsInv s ∧ s.delivery.queue.head? = some { queuedRecord 1 with cells := [0, 9] } := by
  refine ⟨?_, rfl⟩
  constructor <;> simp [queues, queuedRecord]

theorem met_ArbitersGrantByTheirTables :
    let r := ask 1 []
    let c : ConvertFrame := ⟨0, 2, 5, 1⟩
    let s : State := { linked with intake.forward := [r], tracker.converts := [c] }
    let d : State := queues [queuedRecord 1] (opened 32 linked)
    s.intake.forward = r :: [] ∧ s.tracker.converts = c :: [] ∧ s.intake.turn ≠ 4 ∧
    ({ s with intake.turn := 4 } : State).intake.turn = 4 ∧ ({ s with intake.forward := [] } : State).intake.forward = [] ∧
    d.offersRecord = true ∧ d.delivery.nextFrame.isSome = true ∧
    ({ d with deliveryPort.turn := 3 } : State).offersRecord = true ∧ d.deliveryPort.turn ≠ 3 ∧
    d.manager.responses = [] ∧ d.deliveryPort.passback = [] ∧ d.notices.queue = [] ∧
    ({ d with notices.queue := [.halted .noSpace] } : State).notices.queue = .halted .noSpace :: [] ∧
    linked.intake.forward = [] ∧ linked.offersRecord = false := by decide

theorem met_RequestFramesReadBack :
    (ask 9 (List.replicate 9 0xFFFFFFFF)).wf = true ∧ (ask 255 []).wf = true ∧ ([0, 0, 0, 0] : List Byte).length ≠ 5 ∧
    (0xFD : Byte).getLsbD 0 = (⟨0, 2, 5, 17, true, false⟩ : SampleFrame).overRange ∧
    (0xFD : Byte).getLsbD 1 = (⟨0, 2, 5, 17, true, false⟩ : SampleFrame).unitFault := by decide

theorem met_CellsHoldTheirFields :
    ({ content := .missing .mismatch, index := 127, markers := 7, setting := 15 } : Sample).index ≤ 127 ∧
    (queuedRecord 1).header.cause.code ≤ 8 ∧
    (let h : RecordHeader :=
      { (queuedRecord 1).header with cause := .condition 7, s := 128, preBlocks := 255, postBlocks := 65535, total := 8192 }
    h.cause.code ≤ 8 ∧ h.s ≤ 128 ∧ h.preBlocks ≤ 255 ∧ h.postBlocks ≤ 65535 ∧ h.total ≤ 8192) ∧
    (let x : Sample := { content := .value 3 false, index := 127, markers := 7, setting := 15 }
    let b : Block := ⟨1, 0xFFFFFF, true, true, [some x]⟩
    b.cells[0]? = some (some x)) := by decide

end Sys2Proof.Tests
end

section
/-! PROOFS. The Sweep Program, STOP_RUN, the reset effects, and the sweep's start and completion (01, 08): O17, O19, O42, O44, O49. -/

namespace Sys2Proof.Machine

/-! ## Requests -/

/-- A command that executes the front request runs its body on the state whose queue that request has left. -/
theorem Executes.exec_request {c : Instr} {kind : Byte} {body : Request → State → State} {s : State} {r : Request}
    {rest : List Request} (h : Executes s r rest) (hc : effect c s = executeFront kind body s) (hk : r.kind = kind) :
    exec c s = .next (settle (body r (popRequest s))) := by
  rw [exec_effect, hc, executeFront_front h.front_eq hk]

/-- A response to the request that has left the queue is the answer the statements name. -/
theorem Executes.respond_popped {s : State} {r : Request} {rest : List Request} (h : Executes s r rest)
    (status : Status) (payload : List Word) :
    respond r status payload (popRequest s) = s.answered r rest status payload := by
  rw [h.popped, respond_answered]

/-! ## The arguments of a program entry (R4) -/

/-- An argument up to its bound is taken as it is. -/
theorem argIn_zero_of_le {hi : Nat} {w : Word} (h : w.toNat ≤ hi) : argIn 0 hi w = some w.toNat :=
  argIn_eq_some.mpr ⟨⟨Nat.zero_le _, h⟩, rfl⟩

/-- An argument beyond its bound is refused. -/
theorem argIn_of_lt {lo hi : Nat} {w : Word} (h : hi < w.toNat) : argIn lo hi w = none :=
  if_neg (fun hb => absurd hb.2 (Nat.not_le.mpr h))

/-- An argument taken lies up to its bound. -/
theorem le_of_argIn {lo hi n : Nat} {w : Word} (h : argIn lo hi w = some n) : w.toNat ≤ hi := by
  obtain ⟨⟨-, hle⟩, -⟩ := argIn_eq_some.mp h
  exact hle

/-- A truth value taken is 0 or 1. -/
theorem le_one_of_argBool {w : Word} {b : Bool} (h : argBool w = some b) : w.toNat ≤ 1 := by
  by_contra hw
  rw [argBool_of_lt (Nat.lt_of_not_le hw)] at h
  cases h

/-- Fields in their ranges give the entry that holds them. -/
theorem argEntry_of_le {u c k st : Word} (hu : u.toNat ≤ 15) (hc : c.toNat ≤ 15) (hk : k.toNat ≤ 15)
    (hst : st.toNat ≤ 1) :
    argEntry u c k st = some ⟨u.setWidth 4, c.setWidth 4, k.setWidth 4, decide (st = 1)⟩ := by
  simp [argEntry, argIn_zero_of_le hu, argIn_zero_of_le hc, argIn_zero_of_le hk, argBool_of_le hst]

/-- Fields that give an entry lie in their ranges. -/
theorem le_of_argEntry {u c k st : Word} {e : Entry} (h : argEntry u c k st = some e) :
    u.toNat ≤ 15 ∧ c.toNat ≤ 15 ∧ k.toNat ≤ 15 ∧ st.toNat ≤ 1 := by
  unfold argEntry at h
  split at h
  · rename_i hu hc hk hst
    exact ⟨le_of_argIn hu, le_of_argIn hc, le_of_argIn hk, le_one_of_argBool hst⟩
  · cases h

/-! ## The Sweep Program (R4, R5) -/

section
variable {r : Request} (s : State) {i u c k st : Word}

theorem writeProgramEntryBody_of_not_stopped (ha : r.args = [i, u, c, k, st]) (hrun : s.sweeper.run ≠ .stopped) :
    writeProgramEntryBody r s = respond r .badState [] s := by
  simp [writeProgramEntryBody, ha, hrun]

theorem writeProgramEntryBody_of_out_of_range (ha : r.args = [i, u, c, k, st]) (hrun : s.sweeper.run = .stopped)
    (hout : ¬ (i.toNat ≤ 127 ∧ u.toNat ≤ 15 ∧ c.toNat ≤ 15 ∧ k.toNat ≤ 15 ∧ st.toNat ≤ 1)) :
    writeProgramEntryBody r s = respond r .badValue [] s := by
  simp only [writeProgramEntryBody, ha, if_pos hrun]
  split
  · rename_i hi he
    exact absurd ⟨le_of_argIn hi, le_of_argEntry he⟩ hout
  · rfl

theorem writeProgramEntryBody_of_in_range (ha : r.args = [i, u, c, k, st]) (hrun : s.sweeper.run = .stopped)
    (hin : i.toNat ≤ 127 ∧ u.toNat ≤ 15 ∧ c.toNat ≤ 15 ∧ k.toNat ≤ 15 ∧ st.toNat ≤ 1) :
    writeProgramEntryBody r s = respond r .done []
      { s with
        sweeper.program := s.sweeper.program.set i.toNat ⟨u.setWidth 4, c.setWidth 4, k.setWidth 4, decide (st = 1)⟩ } := by
  obtain ⟨hi, hu, hc, hk, hst⟩ := hin
  simp only [writeProgramEntryBody, ha, if_pos hrun, argIn_zero_of_le hi, argEntry_of_le hu hc hk hst]

theorem readProgramEntryBody_of_lt (ha : r.args = [i]) (hi : 127 < i.toNat) :
    readProgramEntryBody r s = respond r .badValue [] s := by
  simp only [readProgramEntryBody, ha, argIn_of_lt hi]

theorem readProgramEntryBody_of_le {e : Entry} (ha : r.args = [i]) (hi : i.toNat ≤ 127)
    (he : s.sweeper.program[i.toNat]? = some e) :
    readProgramEntryBody r s = respond r .done
      [i, e.unit.setWidth 32, e.channel.setWidth 32, e.setting.setWidth 32, if e.store then 1 else 0,
        if i.toNat < s.params.programLength then 1 else 0] s := by
  have hentry : s.entry i.toNat = e := by simp [State.entry, List.getD, he]
  simp [readProgramEntryBody, ha, argIn_zero_of_le hi, hentry, flagWord]

end

/-- Settles O17: the requests' bodies, case by case as R4 and R5 order their checks. -/
theorem programEntriesAreWrittenAndRead : Obligations.ProgramEntriesAreWrittenAndRead := by
  constructor
  · intro s r rest i u c k st h hk ha
    rw [h.exec_request (c := .writeProgramEntry) rfl hk]
    refine ⟨fun hrun => ?notStopped, fun hrun hout => ?outOfRange, fun hrun hin => ?inRange⟩
    case notStopped => rw [writeProgramEntryBody_of_not_stopped (popRequest s) ha hrun, h.respond_popped]
    case outOfRange => rw [writeProgramEntryBody_of_out_of_range (popRequest s) ha hrun hout, h.respond_popped]
    case inRange =>
      rw [writeProgramEntryBody_of_in_range (popRequest s) ha hrun hin, h.popped]
      rfl
  · intro s r rest i h hk ha
    rw [h.exec_request (c := .readProgramEntry) rfl hk]
    refine ⟨fun hi => ?beyond, fun e he hi => ?within⟩
    case beyond => rw [readProgramEntryBody_of_lt (popRequest s) ha hi, h.respond_popped]
    case within =>
      rw [readProgramEntryBody_of_le (popRequest s) ha hi he, h.respond_popped]
      rfl

/-! ## STOP_RUN (R21) -/

/-- A STOP_RUN that finds the deferred slot empty enters it, and the run is acted on. -/
theorem deferStop_of_empty {r : Request} {stop : State → State} (s : State) (h : s.manager.deferred = .empty) :
    deferStop r stop s = { stop s with manager.deferred := .stopRun r } := by
  simp only [deferStop, h]

/-- A STOP_RUN that finds the deferred slot taken is BUSY, and the run is left as it was. -/
theorem deferStop_of_taken {r : Request} {stop : State → State} (s : State) (h : s.manager.deferred ≠ .empty) :
    deferStop r stop s = respond r .busy [] s := by
  unfold deferStop
  split
  · contradiction
  · rfl
  · rfl

section
variable {r : Request} (s : State)

theorem stopRunBody_of_stopped (ha : r.args = []) (hrun : s.sweeper.run = .stopped) :
    stopRunBody r s = respond r .done [] s := by
  simp only [stopRunBody, ha, hrun]

/-- With no sweep to wait for, the run ends at once. -/
theorem stopRunBody_of_no_sweep (ha : r.args = [])
    (hrun : s.sweeper.run = .waitingLine ∨
      (s.sweeper.run = .running ∨ s.sweeper.run = .burst) ∧ s.sweeper.sweep = none) :
    stopRunBody r s = respond r .done [] (runEndReport (endRun .stopRequest s)) := by
  rcases hrun with hw | ⟨hr | hb, hs⟩
  · simp only [stopRunBody, ha, hw]
  · simp [stopRunBody, ha, hr, hs]
  · simp [stopRunBody, ha, hb, hs]

/-- During a sweep the run goes STOPPING, the request in the deferred slot. -/
theorem stopRunBody_of_sweep (ha : r.args = []) (hrun : s.sweeper.run = .running ∨ s.sweeper.run = .burst)
    (hs : s.sweeper.sweep ≠ none) : stopRunBody r s = deferStop r (beginStopping .stopRequest) s := by
  have hsome : s.sweeper.sweep.isSome = true := Option.isSome_iff_ne_none.mpr hs
  rcases hrun with hr | hb
  · simp only [stopRunBody, ha, hr, if_pos hsome]
  · simp only [stopRunBody, ha, hb, if_pos hsome]

theorem stopRunBody_of_stopping (ha : r.args = []) (hrun : s.sweeper.run = .stopping) :
    stopRunBody r s = deferStop r id s := by
  simp only [stopRunBody, ha, hrun]

end

/-- Settles O19: the run states of R21, and in each whether STOP_RUN needs the slot and finds it empty. -/
theorem stopRunActsByRunState : Obligations.StopRunActsByRunState := by
  intro s r rest h hk ha
  dsimp only
  rw [h.exec_request (c := .stopRun) rfl hk]
  refine ⟨fun hrun => ?stopped, fun hrun => ?atOnce, fun hrun hs hd => ?duringSweep, fun hrun hd => ?stopping,
    fun hrun hd => ?busy⟩
  case stopped => rw [stopRunBody_of_stopped (popRequest s) ha hrun, h.respond_popped]
  case atOnce =>
    rw [stopRunBody_of_no_sweep (popRequest s) ha hrun, h.popped]
    rfl
  case duringSweep =>
    rw [stopRunBody_of_sweep (popRequest s) ha hrun hs, deferStop_of_empty (popRequest s) hd, h.popped]
    rfl
  case stopping =>
    rw [stopRunBody_of_stopping (popRequest s) ha hrun, deferStop_of_empty (popRequest s) hd, h.popped]
    rfl
  case busy =>
    rcases hrun with ⟨hgoing, hs⟩ | hstopping
    · rw [stopRunBody_of_sweep (popRequest s) ha hgoing hs, deferStop_of_taken (popRequest s) hd, h.respond_popped]
    · rw [stopRunBody_of_stopping (popRequest s) ha hstopping, deferStop_of_taken (popRequest s) hd, h.respond_popped]

/-! ## The reset effects (R160) -/

/-- With RESET_ENGINE in the slot and both lanes quiet, the blocks are reset, DONE is posted, and the slot and the hold
are cleared. -/
theorem resetCompletes_of_quiet {s : State} {r : Request} (hd : s.manager.deferred = .resetEngine r)
    (hup : s.intake.lane = none) (hdown : s.deliveryPort.lane = none) :
    resetCompletes s =
      { respond r .done [] (resetBlocks s) with manager.deferred := .empty, manager.resetHold := false } := by
  have hquiet : s.lanesQuiet = true := by simp [State.lanesQuiet, hup, hdown]
  simp only [resetCompletes, hd, if_pos hquiet]

/-- Settles O42: RESET_ENGINE completes, and the block resets are the values the statement writes out. -/
theorem resetEffectsActInEveryBlock : Obligations.ResetEffectsActInEveryBlock := by
  intro s r hd hup hdown
  have heffect : effect .resetEffects s = resetCompletes s := rfl
  rw [exec_effect, heffect, resetCompletes_of_quiet hd hup hdown]
  rfl

/-! ## The sweep start (R10, R19) -/

/-- At its limit a going run goes STOPPING with end cause LIMIT; any other only loses its pacer, so that a run a halt at
this start made STOPPING keeps the end cause HALT (R10 step 7, R19). -/
theorem applyLimit_eq (s : State) :
    applyLimit s =
      if s.params.sweepLimit ≠ 0 ∧ s.sweeper.sweepNumber.toNat = s.params.sweepLimit then
        (if s.sweeper.run = .running ∨ s.sweeper.run = .burst then beginStopping .limit s else cancelPacer s)
      else s := by
  unfold applyLimit
  cases s.sweeper.run <;> rfl

/-- At a sweep start the fire record is emptied and the conditions see these levels (R10 step 6, R55). -/
theorem triggerSweepStart_of_lines {s : State} {lines : Lines} (h : s.lines = lines) :
    triggerSweepStart s =
      { s with
        trigger.conditions :=
          s.trigger.conditions.map (fun c => ({ c with fired := none } : Condition).onLines lines) } := by
  subst h
  rfl

/-- Issuing starts from entry 0 with the spacing expired, or the sweep fills with MISSING(LINK) (R10 step 8). -/
theorem beginIssuing_of_intake {s : State} {intake : IntakePort} (h : s.intake = intake) :
    beginIssuing s =
      if intake.link.state = .up then issueTest { s with tracker.cursor := some 0, tracker.spacing := none }
      else fillRest { s with tracker.cursor := some 0, tracker.spacing := none } := by
  subst h
  rfl

/-- Settles O44: step 5 comes before step 7, and the block request keeps the sweep's number, the limit, the lines and the
link that the later steps read. -/
theorem sweepStartTakesItsSteps : Obligations.SweepStartTakesItsSteps := by
  intro s rec_ a b d i
  have hlines : a.lines = s.lines := by simp [a]
  have hnumber : b.sweeper.sweepNumber = s.sweeper.sweepNumber + 1 := by simp [b, a]
  have hparams : b.params = s.params := by simp [b, a]
  have hsampled : triggerSweepStart a = b := triggerSweepStart_of_lines hlines
  have hlimited : applyLimit b = d := by
    rw [applyLimit_eq, hparams, hnumber]
    rfl
  have hlink : d.intake = s.intake := by
    rw [← hlimited]
    simp [b, a]
  calc sweepStart s = beginIssuing (applyLimit (triggerSweepStart a)) := rfl
    _ = beginIssuing d := by rw [hsampled, hlimited]
    _ = if s.intake.link.state = .up then issueTest i else fillRest i := beginIssuing_of_intake hlink

/-! ## The sweep completion (R11, R12) -/

/-- The verdict is formed as the sweep ends; a forced one clears the flag, and capture receives it (R11 steps 1 to 3). -/
theorem judgeSweep_of_ended (number : Word) (s : State) :
    judgeSweep number { s with sweeper.sweep := none } =
      receiveCompleted s.trigger.verdict number
        { s with
          sweeper.sweep := none
          trigger.forced := if s.trigger.verdict = .trigger .force then false else s.trigger.forced } := by
  unfold judgeSweep
  by_cases hv : s.trigger.verdict = .trigger .force
  · simp [hv, clearForced]
  · simp [hv]

/-- A run that is not STOPPING has no end to report at a completion. -/
theorem sweepCompletion_of_not_stopping {r : SweepRecord} {s : State}
    (h : (judgeSweep r.number { s with sweeper.sweep := none }).sweeper.run ≠ .stopping) :
    sweepCompletion r s = runAfterCompletion (judgeSweep r.number { s with sweeper.sweep := none }) := by
  simp only [sweepCompletion, if_neg h]

theorem sweepCompletion_of_stopping {r : SweepRecord} {s : State}
    (h : (judgeSweep r.number { s with sweeper.sweep := none }).sweeper.run = .stopping) :
    sweepCompletion r s =
      runEndReport (runAfterCompletion (judgeSweep r.number { s with sweeper.sweep := none })) := by
  simp only [sweepCompletion, if_pos h]

/-- A run that goes on is left as it is. -/
theorem runAfterCompletion_of_going {s : State}
    (h : s.sweeper.run = .running ∨ s.sweeper.run = .stopped ∨ (s.sweeper.run = .burst ∧ 0 < s.sweeper.burstCount)) :
    runAfterCompletion s = s := by
  rcases h with hr | hs | ⟨hb, hc⟩
  · simp only [runAfterCompletion, hr]
  · simp only [runAfterCompletion, hs]
  · simp only [runAfterCompletion, hb, if_neg (Nat.ne_of_gt hc)]

/-- After the last sweep of a burst the run waits for the line. -/
theorem runAfterCompletion_of_burst_over {s : State} (hb : s.sweeper.run = .burst) (hc : s.sweeper.burstCount = 0) :
    runAfterCompletion s = { s with sweeper.run := .waitingLine } := by
  simp only [runAfterCompletion, hb, if_pos hc]

/-- A stopping run reaches STOPPED with the cause it recorded, and then its deferred STOP_RUN is answered. -/
theorem runAfterCompletion_of_stopping {s : State} {cause : EndCause} (hr : s.sweeper.run = .stopping)
    (hcause : s.sweeper.endCause = some cause) :
    runAfterCompletion s = answerDeferredStop
      (postNotice (.runEnded cause) { s with sweeper.run := .stopped, sweeper.pacer := none }) := by
  simp only [runAfterCompletion, hr, SweepController.recordedCause, hcause, Option.getD_some, endRun]

theorem answerDeferredStop_of_stopRun {s : State} {q : Request} (h : s.manager.deferred = .stopRun q) :
    answerDeferredStop s = respond q .done [] { s with manager.deferred := .empty } := by
  simp only [answerDeferredStop, h]

/-- With no STOP_RUN in the slot there is nothing to answer. -/
theorem answerDeferredStop_of_none {s : State} (h : ∀ q, s.manager.deferred ≠ .stopRun q) :
    answerDeferredStop s = s := by
  unfold answerDeferredStop
  split
  · exact absurd ‹_› (h _)
  · rfl
  · rfl

/-- The completion test finds a sweep complete with the cursor at end and the table empty (R28). -/
theorem checkCompletion_of_complete {s : State} {r : SweepRecord} (hs : s.sweeper.sweep = some r)
    (hcursor : s.tracker.cursor = none) (htable : s.tracker.inFlight = []) :
    checkCompletion s = sweepCompletion r s := by
  simp only [checkCompletion, hs, if_pos (And.intro hcursor htable)]

/-- With something left to issue or in flight, or no sweep in progress, the completion test does nothing (R28). -/
theorem checkCompletion_of_incomplete {s : State}
    (h : ∀ q, s.sweeper.sweep = some q → s.tracker.cursor ≠ none ∨ s.tracker.inFlight ≠ []) :
    checkCompletion s = s := by
  unfold checkCompletion
  split
  · rename_i q hq
    exact if_neg (not_and_or.mpr (h q hq))
  · rfl

/-- Settles O49: the completion test of R28, then R12 by the run state that stands after the verdict is received. -/
theorem sweepCompletionTakesItsSteps : Obligations.SweepCompletionTakesItsSteps := by
  intro s r
  dsimp only
  rw [← judgeSweep_of_ended]
  refine ⟨fun ⟨hs, hcursor, htable⟩ => checkCompletion_of_complete hs hcursor htable, checkCompletion_of_incomplete,
    fun hgoing => ?going, fun hburst hover => ?burstOver, fun cause hstopping hcause => ?stopping⟩
  case going =>
    rw [sweepCompletion_of_not_stopping, runAfterCompletion_of_going hgoing]
    rcases hgoing with hr | hr | ⟨hr, -⟩ <;> simp [hr]
  case burstOver =>
    rw [sweepCompletion_of_not_stopping (by simp [hburst]), runAfterCompletion_of_burst_over hburst hover]
  case stopping =>
    rw [sweepCompletion_of_stopping hstopping, runAfterCompletion_of_stopping hstopping hcause]
    refine ⟨fun q hq => ?answered, fun hnone => ?unanswered⟩
    case answered => rw [answerDeferredStop_of_stopRun (q := q) (by simpa using hq)]
    case unanswered => rw [answerDeferredStop_of_none (by simpa using hnone)]

end Sys2Proof.Machine
end

section
/-! PROOFS. The tag an issue takes, the issue test, and the completion of a request (02): O46, O48. -/

namespace Sys2Proof.Machine

/-! ## The tag an issue takes (R31) -/

/-- The tags the table holds are the 32 the choice runs over. -/
theorem lt_tagCount_of_free {tags : List TagState} (hlen : tags.length = 32) {t : Nat} (ht : tags[t]? = some .free) :
    t < Config.tagCount := by
  obtain ⟨hlt, -⟩ := List.getElem?_eq_some_iff.mp ht
  simpa [hlen] using hlt

/-- The choice lies above the last-issued tag with no FREE tag between, or no FREE tag lies above the last-issued one and
none lies below the choice (R31). -/
theorem chooseTag_eq_some {tags : List TagState} {last t : Nat} (hlen : tags.length = 32)
    (h : chooseTag tags last = some t) :
    (last < t ∧ ∀ u, last < u → u < t → tags[u]? ≠ some .free) ∨
    ((∀ u, last < u → tags[u]? ≠ some .free) ∧ ∀ u, u < t → tags[u]? ≠ some .free) := by
  simp only [chooseTag] at h
  split at h
  next v habove =>
    cases h
    obtain ⟨hpasses, -, hbelow⟩ := List.find?_range_eq_some.mp habove
    simp only [Bool.and_eq_true, decide_eq_true_eq, Bool.not_and, Bool.or_eq_true, Bool.not_eq_eq_eq_not, Bool.not_true,
      decide_eq_false_iff_not, not_lt] at hpasses hbelow
    exact .inl ⟨hpasses.1, fun u hu hut => (hbelow u hut).resolve_left (Nat.not_le.mpr hu)⟩
  next hnone =>
    obtain ⟨-, -, hbelow⟩ := List.find?_range_eq_some.mp h
    simp only [List.find?_eq_none, List.mem_range, Bool.and_eq_true, decide_eq_true_eq, not_and, Bool.not_eq_eq_eq_not,
      Bool.not_true, decide_eq_false_iff_not] at hnone hbelow
    exact .inr ⟨fun u hu hfree => hnone u (lt_tagCount_of_free hlen hfree) hu hfree, hbelow⟩

/-- With no tag chosen, no tag is FREE (R31). -/
theorem not_free_of_chooseTag_none {tags : List TagState} {last : Nat} (hlen : tags.length = 32)
    (h : chooseTag tags last = none) (t : Nat) : tags[t]? ≠ some .free := by
  simp only [chooseTag] at h
  split at h
  next => cases h
  next =>
    simp only [List.find?_eq_none, List.mem_range, decide_eq_true_eq] at h
    exact fun hfree => h t (lt_tagCount_of_free hlen hfree) hfree

/-! ## The issue and its test (R29, R30, R32) -/

/-- A program entry in the table is the one its index reads. -/
theorem entry_of_getElem? {s : State} {i : Nat} {e : Entry} (h : s.sweeper.program[i]? = some e) : s.entry i = e := by
  simp [State.entry, List.getD, h]

/-- What is ready is the cursor's entry with the tag chosen, the link UP, the spacing expired and a place left (R29). -/
theorem readyToIssue_eq_some {s : State} {i t : Nat} :
    readyToIssue s = some (i, t) ↔
      (s.intake.link.state = .up ∧ s.tracker.spacing = none ∧ s.tracker.inFlight.length < s.params.inflightLimit) ∧
        s.tracker.cursor = some i ∧ chooseTag s.tracker.tags s.tracker.lastTag = some t := by
  unfold readyToIssue
  split
  next hopen =>
    simp only [hopen, and_self, true_and]
    cases s.tracker.cursor <;> cases chooseTag s.tracker.tags s.tracker.lastTag <;> simp
  next hclosed => simp [hclosed]

/-- With the cursor at end nothing is ready. -/
theorem readyToIssue_of_cursor_none {s : State} (h : s.tracker.cursor = none) : readyToIssue s = none := by
  simp [readyToIssue, h]

/-- With spacing in force an issue shuts out the next until the timer expires (R30). -/
theorem readyToIssue_issueEntry_of_spacing {s : State} (h : s.params.entrySpacing ≠ 0) (i t : Nat) :
    readyToIssue (issueEntry i t s) = none := by
  simp [readyToIssue, issueEntry, loadSpacing, h]

theorem issueLoop_of_ready {s : State} {i t : Nat} (h : readyToIssue s = some (i, t)) (n : Nat) :
    issueLoop (n + 1) s = issueLoop n (issueEntry i t s) := by
  simp only [issueLoop, h]

theorem issueLoop_of_not_ready {s : State} (h : readyToIssue s = none) (n : Nat) : issueLoop n s = s := by
  cases n with
  | zero => rfl
  | succ n => simp only [issueLoop, h]

/-- The cursor names an entry in use, and at most n entries are left from it on (R28). -/
def EntriesLeft (n : Nat) (s : State) : Prop :=
  ∀ i, s.tracker.cursor = some i → i < s.params.programLength ∧ s.params.programLength ≤ i + n

/-- No program is longer than the repeats the issue test may make (R1). -/
theorem entriesLeft_of_inUse {s : State} (hlength : s.params.programLength ≤ 128)
    (hcursor : ∀ i, s.tracker.cursor = some i → i < s.params.programLength) : EntriesLeft Config.programEntries s :=
  fun i hi => ⟨hcursor i hi, Nat.le_add_left_of_le hlength⟩

/-- An issue leaves one entry fewer. -/
theorem EntriesLeft.issueEntry {n i : Nat} {s : State} (h : EntriesLeft (n + 1) s) (hi : s.tracker.cursor = some i)
    (t : Nat) : EntriesLeft n (issueEntry i t s) := by
  intro j hj
  obtain ⟨-, hleft⟩ := h i hi
  have hnext : nextCursor s.params.programLength i = some j := hj
  simp only [nextCursor, Option.ite_none_right_eq_some, Option.some.injEq] at hnext
  obtain ⟨hlt, rfl⟩ := hnext
  simp only [issueEntry_keeps]
  omega

/-- As many repeats as entries are left issue all that can be issued (R29). -/
theorem readyToIssue_issueLoop {n : Nat} {s : State} (h : EntriesLeft n s) : readyToIssue (issueLoop n s) = none := by
  induction n generalizing s with
  | zero =>
    apply readyToIssue_of_cursor_none
    cases hc : s.tracker.cursor with
    | none => exact hc
    | some i =>
      have := h i hc
      omega
  | succ n ih =>
    cases hr : readyToIssue s with
    | none => rwa [issueLoop_of_not_ready hr]
    | some found =>
      obtain ⟨i, t⟩ := found
      obtain ⟨-, hcursor, -⟩ := readyToIssue_eq_some.mp hr
      rw [issueLoop_of_ready hr]
      exact ih (h.issueEntry hcursor t)

/-- The last repeat is a repeat of the state the others leave. -/
theorem issueLoop_succ (n : Nat) (s : State) : issueLoop (n + 1) s = issueLoop 1 (issueLoop n s) := by
  induction n generalizing s with
  | zero => rfl
  | succ n ih =>
    cases hr : readyToIssue s with
    | none => simp only [issueLoop_of_not_ready hr]
    | some found => rw [issueLoop_of_ready hr, ih, issueLoop_of_ready hr]

/-- One repeat more than entries are left changes nothing. -/
theorem issueLoop_succ_of_entriesLeft {n : Nat} {s : State} (h : EntriesLeft n s) :
    issueLoop (n + 1) s = issueLoop n s := by
  rw [issueLoop_succ, issueLoop_of_not_ready (readyToIssue_issueLoop h)]

/-- With spacing in force the issue test issues the entry that is ready and no other (R29, R30). -/
theorem issueTest_of_spacing {s : State} {i t : Nat} (hr : readyToIssue s = some (i, t))
    (hspacing : s.params.entrySpacing ≠ 0) : issueTest s = issueEntry i t s :=
  calc issueTest s = issueLoop 127 (issueEntry i t s) := issueLoop_of_ready hr 127
    _ = issueEntry i t s := issueLoop_of_not_ready (readyToIssue_issueEntry_of_spacing hspacing i t) 127

/-- The issue test issues the entry that is ready and is made again after it (R29). -/
theorem issueTest_of_ready {s : State} {i t : Nat} (hleft : EntriesLeft Config.programEntries s)
    (hr : readyToIssue s = some (i, t)) : issueTest s = issueTest (issueEntry i t s) := by
  obtain ⟨-, hcursor, -⟩ := readyToIssue_eq_some.mp hr
  have hfewer : EntriesLeft 127 (issueEntry i t s) := hleft.issueEntry hcursor t
  calc issueTest s = issueLoop 127 (issueEntry i t s) := issueLoop_of_ready hr 127
    _ = issueLoop 128 (issueEntry i t s) := (issueLoop_succ_of_entriesLeft hfewer).symm

/-- Settles O46: the choice of R31 by whether a FREE tag lies above the last-issued one, and the issue test by its
repeats, which no program outlasts. -/
theorem issueTakesTheNextFreeTag : Obligations.IssueTakesTheNextFreeTag := by
  refine ⟨fun tags last hlen => ⟨fun t h => ⟨(chooseTag_free h).2, ?tag⟩, not_free_of_chooseTag_none hlen⟩,
    fun s i t e he => ?issue, fun s i t => ⟨readyToIssue_eq_some, issueTest_of_spacing⟩,
    fun s h => issueLoop_of_not_ready h _,
    fun s i t hlength hcursor => issueTest_of_ready (entriesLeft_of_inUse hlength hcursor)⟩
  case tag =>
    rcases chooseTag_eq_some hlen h with ⟨habove, hbetween⟩ | ⟨hnone, hbelow⟩
    · exact ⟨fun _ => hbetween, fun hle => absurd habove (Nat.not_lt.mpr hle)⟩
    · exact ⟨fun _ u hu _ => hnone u hu, fun _ => ⟨hnone, hbelow⟩⟩
  case issue =>
    rw [← entry_of_getElem? he]
    rfl

/-! ## The sample handed over (R42 steps 1 and 2, R79) -/

section
variable {x : Sample} {p : Entry} {s : State}

/-- The sample of a STORE entry goes into the cell that the STORE entries before it leave. -/
theorem storeSample_of_store {b : Block} (hp : s.sweeper.program[x.index]? = some p) (hstore : p.store = true)
    (hb : s.memory.current = some b) :
    storeSample x s =
      { s with
        memory.current := some
          { b with cells := b.cells.set ((s.sweeper.program.take x.index).filter (·.store)).length (some x) } } := by
  simp only [storeSample, entry_of_getElem? hp, if_pos hstore, hb]
  rfl

/-- The sample of a MONITOR entry takes no cell. -/
theorem storeSample_of_monitor (hp : s.sweeper.program[x.index]? = some p) (hmonitor : ¬ p.store = true) :
    storeSample x s = s := by
  simp only [storeSample, entry_of_getElem? hp, if_neg hmonitor]

/-- The sample of an unstored sweep is dropped. -/
theorem storeSample_of_unstored (hnone : s.memory.current = none) : storeSample x s = s := by
  simp only [storeSample, hnone, ite_self]

end

/-- The conditions that name the entry see the sample, whether a cell took it or not. -/
theorem handSample_eq (x : Sample) (s : State) :
    handSample x s =
      { storeSample x s with trigger.conditions := s.trigger.conditions.map (Condition.onEntry x.index x.content) } := by
  simp [handSample, triggerSample, mapConditions]

/-! ## Completions (R42 to R44) -/

/-- The cursor's entry completes with the marks of this moment and its own setting code, and the cursor moves on (R43). -/
theorem missingLink_eq {s : State} {i : Nat} {p : Entry} (hp : s.sweeper.program[i]? = some p) :
    missingLink i s =
      { handSample { content := .missing .link, index := i, markers := s.lines.marks, setting := p.setting } s with
        tracker.cursor := nextCursor s.params.programLength i } := by
  simp [missingLink, entry_of_getElem? hp]

/-- The entry of a withdrawn CONVERT frame completes as MISSING(LINK) and its tag becomes FREE (R44). -/
theorem withdrawEntry_of_found {s : State} {f : ConvertFrame} {e : InFlight}
    (h : s.tracker.inFlight.find? (fun e => e.tag == f.tag) = some e) :
    withdrawEntry s f = setTag e.tag .free (removeEntry e (handSample (e.sample (.missing .link)) s)) := by
  simp only [withdrawEntry, h]

/-- Settles O48: every completion hands its sample over by the same two steps, a cell and then the conditions. -/
theorem completedRequestHandsItsSampleOver : Obligations.CompletedRequestHandsItsSampleOver := by
  unfold Obligations.CompletedRequestHandsItsSampleOver
  intro handed removed
  have hhanded (x : Sample) (p : Entry) (s : State) (hp : s.sweeper.program[x.index]? = some p) :
      handSample x s = handed x p s := by
    rw [handSample_eq]
    cases hcurrent : s.memory.current with
    | none =>
      rw [storeSample_of_unstored hcurrent]
      simp only [handed, hcurrent]
      rfl
    | some b =>
      by_cases hstore : p.store = true
      · rw [storeSample_of_store hp hstore hcurrent]
        simp only [handed, hcurrent, if_pos hstore]
        rfl
      · rw [storeSample_of_monitor hp hstore]
        simp only [handed, hcurrent, if_neg hstore]
        rfl
  have hremoved (e : InFlight) (tag : TagState) (s : State) : setTag e.tag tag (removeEntry e s) = removed e tag s := rfl
  refine ⟨fun s e p content tag hp => ?completed, fun s i p hp => ?unissued, fun s f e p hf hp => ?withdrawn,
    fun s => rfl⟩
  case completed =>
    rw [← hhanded _ p s hp, ← hremoved]
    rfl
  case unissued =>
    rw [missingLink_eq hp, hhanded _ p s hp]
    rfl
  case withdrawn =>
    rw [withdrawEntry_of_found hf, hhanded _ p s hp, hremoved]
    rfl

end Sys2Proof.Machine
end

section
/-! PROOFS. WRITE_CONDITION and READ_CONDITION (03): O20, O21. -/

namespace Sys2Proof.Machine

/-! ## READ_CONDITION (R65) -/

section
variable {r : Request} (s : State) {n : Word}

theorem readConditionBody_of_lt (ha : r.args = [n]) (hn : 7 < n.toNat) :
    readConditionBody r s = respond r .badValue [] s := by
  simp only [readConditionBody, ha, argIn_of_lt hn]

theorem readConditionBody_of_le {c : Condition} (ha : r.args = [n]) (hn : n.toNat ≤ 7)
    (hc : s.trigger.conditions[n.toNat]? = some c) :
    readConditionBody r s = respond r .done (n :: c.words) s := by
  have hcondition : s.condition n.toNat = c := by simp [State.condition, List.getD, hc]
  simp only [readConditionBody, ha, argIn_zero_of_le hn, hcondition]

end

/-- Settles O21: a number of the table answers with the words of its condition, any other is refused. -/
theorem readConditionReturnsTheCondition : Obligations.ReadConditionReturnsTheCondition := by
  intro s r rest n h hk ha
  rw [h.exec_request (c := .readCondition) rfl hk]
  refine ⟨fun hn => ?beyond, fun c hc hn => ?within⟩
  case beyond => rw [readConditionBody_of_lt (popRequest s) ha hn, h.respond_popped]
  case within =>
    rw [readConditionBody_of_le (popRequest s) ha hn hc, h.respond_popped]
    rfl

/-! ## The arguments of a condition (R64, R179) -/

/-- A role is read from its code. -/
theorem argRole_eq_some {w : Word} {x : Role} : argRole w = some x ↔ w.toNat = x.code := by
  constructor
  · intro h
    unfold argRole at h
    split at h <;> cases h <;> assumption
  · intro h
    rw [argRole, h]
    cases x <;> rfl

/-- A test is read from its code. -/
theorem argTest_eq_some {w : Word} {x : Test} : argTest w = some x ↔ w.toNat = x.code := by
  constructor
  · intro h
    unfold argTest at h
    split at h <;> cases h <;> assumption
  · intro h
    rw [argTest, h]
    cases x <;> rfl

/-- A source is read from its code, an entry's place being one of the table's 128. -/
theorem argSource_eq_some {w : Word} {x : Source} :
    argSource w = some x ↔ w.toNat = x.code ∧ ∀ i, x = .entry i → i ≤ 127 := by
  constructor
  · intro h
    unfold argSource at h
    split_ifs at h with hle h256 h257 <;> cases h
    · exact ⟨rfl, fun i hi => Source.entry.inj hi ▸ hle⟩
    · exact ⟨h256, nofun⟩
    · exact ⟨h257, nofun⟩
  · rintro ⟨hcode, hplace⟩
    rw [argSource, hcode]
    cases x with
    | entry i => exact if_pos (hplace i rfl)
    | trig0 => rfl
    | trig1 => rfl

/-- A signed argument is taken as its low half. -/
theorem argSigned_eq_some {w : Word} {x : BitVec 16} :
    argSigned w = some x ↔ (-32768 ≤ w.toInt ∧ w.toInt ≤ 32767) ∧ x = w.setWidth 16 := by
  unfold argSigned
  split
  next h => simp [h, eq_comm]
  next h => simp [h]

/-- A signed argument taken is the sign extension of the field. -/
theorem signExtend_of_argSigned {w : Word} {x : BitVec 16} (h : argSigned w = some x) : x.signExtend 32 = w := by
  obtain ⟨hrange, rfl⟩ := argSigned_eq_some.mp h
  exact signExtend_setWidth hrange

/-- It stands for the number the argument does. -/
theorem toInt_of_argSigned {w : Word} {x : BitVec 16} (h : argSigned w = some x) : x.toInt = w.toInt := by
  obtain ⟨hrange, rfl⟩ := argSigned_eq_some.mp h
  exact setWidth_toInt hrange

/-- A signed argument in the field's range is taken. -/
theorem argSigned_of_range {w : Word} (h : -32768 ≤ w.toInt ∧ w.toInt ≤ 32767) : argSigned w = some (w.setWidth 16) :=
  argSigned_eq_some.mpr ⟨h, rfl⟩

theorem Role.code_le (x : Role) : x.code ≤ 2 := by cases x <;> decide

theorem Test.code_le (x : Test) : x.code ≤ 5 := by cases x <;> decide

/-- Every code up to 2 is a role's. -/
theorem Role.exists_code {n : Nat} (h : n ≤ 2) : ∃ x : Role, n = x.code :=
  match n with
  | 0 => ⟨.off, rfl⟩
  | 1 => ⟨.qualify, rfl⟩
  | 2 => ⟨.fire, rfl⟩

/-- Every code up to 5 is a test's. -/
theorem Test.exists_code {n : Nat} (h : n ≤ 5) : ∃ x : Test, n = x.code :=
  match n with
  | 0 => ⟨.above, rfl⟩
  | 1 => ⟨.below, rfl⟩
  | 2 => ⟨.inside, rfl⟩
  | 3 => ⟨.outside, rfl⟩
  | 4 => ⟨.high, rfl⟩
  | 5 => ⟨.low, rfl⟩

/-- The tests of a line are those with the codes above 3 (R48, R179). -/
theorem forLine_of_argTest {w : Word} {x : Test} (h : argTest w = some x) : x.forLine = true ↔ 3 < w.toNat := by
  rw [argTest_eq_some.mp h]
  cases x <;> decide

/-- The word of a code is the argument the code was read from. -/
theorem word_of_toNat {w : Word} {n : Nat} (h : w.toNat = n) : word n = w := by
  rw [← h, word, BitVec.ofNat_toNat, BitVec.setWidth_eq]

/-- The sources that are lines have the codes above 127 (R179). -/
theorem isLine_of_argSource {w : Word} {x : Source} (h : argSource w = some x) : x.isLine = true ↔ 127 < w.toNat := by
  obtain ⟨hcode, hplace⟩ := argSource_eq_some.mp h
  rw [hcode]
  cases x with
  | entry i => simpa [Source.isLine, Source.code] using hplace i rfl
  | trig0 => decide
  | trig1 => decide

/-- A source read has the code of an entry or of a line. -/
theorem toNat_of_argSource {w : Word} {x : Source} (h : argSource w = some x) :
    w.toNat ≤ 127 ∨ w.toNat = 256 ∨ w.toNat = 257 := by
  obtain ⟨hcode, hplace⟩ := argSource_eq_some.mp h
  rw [hcode]
  cases x with
  | entry i => exact .inl (hplace i rfl)
  | trig0 => exact .inr (.inl rfl)
  | trig1 => exact .inr (.inr rfl)

/-- A code up to 127 is the entry of that place. -/
theorem argSource_of_le {w : Word} (h : w.toNat ≤ 127) : argSource w = some (.entry w.toNat) := if_pos h

/-- The codes of an entry and of a line can be read. -/
theorem exists_argSource {w : Word} (h : w.toNat ≤ 127 ∨ w.toNat = 256 ∨ w.toNat = 257) : ∃ x, argSource w = some x := by
  rcases h with hle | h256 | h257
  · exact ⟨_, argSource_of_le hle⟩
  · exact ⟨.trig0, argSource_eq_some.mpr ⟨h256, nofun⟩⟩
  · exact ⟨.trig1, argSource_eq_some.mpr ⟨h257, nofun⟩⟩

/-! ## WRITE_CONDITION (R64) -/

/-- Conditions may be written while capture is IDLE or HALTED. -/
theorem CaptureState.conditionsWritable_iff {x : CaptureState} :
    x.conditionsWritable = true ↔ x = .idle ∨ x = .halted := by
  cases x <;> decide

/-- The condition c is what the arguments of WRITE_CONDITION after the number give: each field is read from its own
argument, the fields agree, and the runtime state is that of a condition just written. -/
structure GivesCondition (programLength : Nat) (role source test threshold low high hysteresis count : Word)
    (c : Condition) : Prop where
  role : argRole role = some c.role
  source : argSource source = some c.source
  test : argTest test = some c.test
  threshold : argSigned threshold = some c.threshold
  low : argSigned low = some c.low
  high : argSigned high = some c.high
  hysteresis : argIn 0 4095 hysteresis = some c.hysteresis
  count : argIn 1 16 count = some c.qualifyCount
  kind : c.test.forLine = c.source.isLine
  inUse : ∀ i, c.source = .entry i → i < programLength
  band : c.low.toInt ≤ c.high.toInt
  runtime : c.readiness = .unknown ∧ c.runCount = 0 ∧ c.fired = none

/-- The arguments give a condition exactly when every field can be read and the fields agree (R64). -/
theorem argCondition_eq_some {L : Nat} {role source test threshold low high hysteresis count : Word} {c : Condition} :
    argCondition L role source test threshold low high hysteresis count = some c ↔
      GivesCondition L role source test threshold low high hysteresis count c := by
  constructor
  · intro h
    unfold argCondition at h
    split at h
    next hrole hsource htest hthreshold hlow hhigh hhysteresis hcount =>
      obtain ⟨⟨hkind, hinUse, hband⟩, hc⟩ := Option.ite_none_right_eq_some.mp h
      cases hc
      refine ⟨hrole, hsource, htest, hthreshold, hlow, hhigh, hhysteresis, hcount, hkind, ?inUse, hband, rfl, rfl, rfl⟩
      rintro i rfl
      exact of_decide_eq_true hinUse
    next => cases h
  · rintro ⟨hrole, hsource, htest, hthreshold, hlow, hhigh, hhysteresis, hcount, hkind, hinUse, hband, hruntime⟩
    obtain ⟨_, src, _, _, _, _, _, _, _, _, _⟩ := c
    obtain ⟨rfl, rfl, rfl⟩ := hruntime
    simp only [argCondition, hrole, hsource, htest, hthreshold, hlow, hhigh, hhysteresis, hcount]
    cases src with
    | entry i => exact if_pos ⟨hkind, decide_eq_true (hinUse i rfl), hband⟩
    | trig0 => exact if_pos ⟨hkind, rfl, hband⟩
    | trig1 => exact if_pos ⟨hkind, rfl, hband⟩

section
variable {L : Nat} {number role source test threshold low high hysteresis count : Word} {c : Condition}

/-- The condition given holds every field as its argument was, UNKNOWN, with run count 0 and out of the fire record. -/
theorem GivesCondition.words (h : GivesCondition L role source test threshold low high hysteresis count c) :
    c.words = [role, source, test, threshold, low, high, hysteresis, count, 0, 0, 0] := by
  have hrole := word_of_toNat (argRole_eq_some.mp h.role)
  have hsource := word_of_toNat (argSource_eq_some.mp h.source).1
  have htest := word_of_toNat (argTest_eq_some.mp h.test)
  have hthreshold := signExtend_of_argSigned h.threshold
  have hlow := signExtend_of_argSigned h.low
  have hhigh := signExtend_of_argSigned h.high
  have hhysteresis := word_of_toNat (argIn_eq_some.mp h.hysteresis).2.symm
  have hcount := word_of_toNat (argIn_eq_some.mp h.count).2.symm
  obtain ⟨hreadiness, hrun, hfired⟩ := h.runtime
  simp only [Condition.words, hrole, hsource, htest, hthreshold, hlow, hhigh, hhysteresis, hcount, hreadiness, hrun, hfired]
  rfl

/-- Its source is a line for the two codes of the lines, else the entry of that place. -/
theorem GivesCondition.source_eq (h : GivesCondition L role source test threshold low high hysteresis count c) :
    c.source = if source = 256 then .trig0 else if source = 257 then .trig1 else .entry source.toNat := by
  obtain ⟨hcode, hplace⟩ := argSource_eq_some.mp h.source
  cases hsource : c.source with
  | trig0 =>
    have h256 : source = 256 := BitVec.eq_of_toNat_eq (hcode.trans (congrArg Source.code hsource))
    rw [if_pos h256]
  | trig1 =>
    have h257 : source = 257 := BitVec.eq_of_toNat_eq (hcode.trans (congrArg Source.code hsource))
    rw [h257]
    rfl
  | entry i =>
    have hi : source.toNat = i := hcode.trans (congrArg Source.code hsource)
    have hle : i ≤ 127 := hplace i hsource
    have h256 : source ≠ 256 := by bv_omega
    have h257 : source ≠ 257 := by bv_omega
    rw [if_neg h256, if_neg h257, hi]

/-- Arguments that give a condition to a number of the table suit. -/
theorem GivesCondition.args (h : GivesCondition L role source test threshold low high hysteresis count c)
    (hn : number.toNat ≤ 7) : ConditionArgs L number role source test threshold low high hysteresis count where
  number := hn
  roleCode := argRole_eq_some.mp h.role ▸ c.role.code_le
  source := toNat_of_argSource h.source
  test := argTest_eq_some.mp h.test ▸ c.test.code_le
  threshold := (argSigned_eq_some.mp h.threshold).1
  low := (argSigned_eq_some.mp h.low).1
  high := (argSigned_eq_some.mp h.high).1
  hysteresis := le_of_argIn h.hysteresis
  qualifyCount := (argIn_eq_some.mp h.count).1
  agrees := by
    have hkind : 3 < test.toNat ↔ 127 < source.toNat := by
      rw [← forLine_of_argTest h.test, ← isLine_of_argSource h.source, h.kind]
    omega
  inUse := fun hle => h.inUse _ (Option.some.inj (h.source.symm.trans (argSource_of_le hle)))
  band := by
    rw [← toInt_of_argSigned h.low, ← toInt_of_argSigned h.high]
    exact h.band

/-- Arguments that suit give a condition. -/
theorem ConditionArgs.gives (h : ConditionArgs L number role source test threshold low high hysteresis count) :
    ∃ c, GivesCondition L role source test threshold low high hysteresis count c := by
  obtain ⟨r, hr⟩ := Role.exists_code h.roleCode
  obtain ⟨t, ht⟩ := Test.exists_code h.test
  obtain ⟨src, hsource⟩ := exists_argSource h.source
  have hrole := argRole_eq_some.mpr hr
  have htest := argTest_eq_some.mpr ht
  have hlow := argSigned_of_range h.low
  have hhigh := argSigned_of_range h.high
  refine ⟨⟨r, src, t, threshold.setWidth 16, low.setWidth 16, high.setWidth 16, hysteresis.toNat, count.toNat, .unknown, 0,
      none⟩,
    hrole, hsource, htest, argSigned_of_range h.threshold, hlow, hhigh, argIn_zero_of_le h.hysteresis,
    argIn_eq_some.mpr ⟨h.qualifyCount, rfl⟩, ?kind, ?inUse, ?band, rfl, rfl, rfl⟩
  case kind =>
    have hagrees := h.agrees
    rw [Bool.eq_iff_iff, forLine_of_argTest htest, isLine_of_argSource hsource]
    omega
  case inUse =>
    rintro i rfl
    obtain ⟨hi, hle⟩ := argSource_eq_some.mp hsource
    have hplace : source.toNat = i := hi
    rw [← hplace]
    exact h.inUse (hplace ▸ hle i rfl)
  case band =>
    rw [toInt_of_argSigned hlow, toInt_of_argSigned hhigh]
    exact h.band

end

section
variable {r : Request} (s : State) {number role source test threshold low high hysteresis count : Word}

theorem writeConditionBody_of_not_writable
    (ha : r.args = [number, role, source, test, threshold, low, high, hysteresis, count])
    (hstate : ¬ (s.capture.state = .idle ∨ s.capture.state = .halted)) :
    writeConditionBody r s = respond r .badState [] s := by
  have hlocked : ¬ s.capture.state.conditionsWritable = true := by rwa [CaptureState.conditionsWritable_iff]
  simp only [writeConditionBody, ha, if_neg hlocked]

theorem writeConditionBody_of_refused
    (ha : r.args = [number, role, source, test, threshold, low, high, hysteresis, count])
    (hstate : s.capture.state = .idle ∨ s.capture.state = .halted)
    (hargs : ¬ ConditionArgs s.params.programLength number role source test threshold low high hysteresis count) :
    writeConditionBody r s = respond r .badValue [] s := by
  simp only [writeConditionBody, ha, if_pos (CaptureState.conditionsWritable_iff.mpr hstate)]
  split
  next hnumber hcondition =>
    exact absurd ((argCondition_eq_some.mp hcondition).args (le_of_argIn hnumber)) hargs
  next => rfl

theorem writeConditionBody_of_accepted {c : Condition}
    (ha : r.args = [number, role, source, test, threshold, low, high, hysteresis, count])
    (hstate : s.capture.state = .idle ∨ s.capture.state = .halted) (hn : number.toNat ≤ 7)
    (hc : GivesCondition s.params.programLength role source test threshold low high hysteresis count c) :
    writeConditionBody r s =
      respond r .done [] { s with trigger.conditions := s.trigger.conditions.set number.toNat c } := by
  simp only [writeConditionBody, ha, if_pos (CaptureState.conditionsWritable_iff.mpr hstate), argIn_zero_of_le hn,
    argCondition_eq_some.mpr hc]

end

/-- Settles O20: the order of R64's checks, and the condition that arguments which suit give. -/
theorem writeConditionReplacesTheCondition : Obligations.WriteConditionReplacesTheCondition := by
  intro s r rest number role source test threshold low high hysteresis count h hk ha
  dsimp only
  rw [h.exec_request (c := .writeCondition) rfl hk]
  refine ⟨fun hstate => ?badState, fun hstate hargs => ?badValue, fun hstate hargs => ?accepted⟩
  case badState => rw [writeConditionBody_of_not_writable (popRequest s) ha hstate, h.respond_popped]
  case badValue => rw [writeConditionBody_of_refused (popRequest s) ha hstate hargs, h.respond_popped]
  case accepted =>
    obtain ⟨c, hc⟩ := hargs.gives
    refine ⟨c, hc.words, hc.source_eq, ?_⟩
    rw [writeConditionBody_of_accepted (popRequest s) ha hstate hargs.number hc, h.popped]
    rfl

end Sys2Proof.Machine
end

section
/-! PROOFS. The evaluation of a condition, and the verdict of a sweep (03): O50, O51. -/

namespace Sys2Proof.Machine

/-! ## The tests of a value (R51) -/

/-- A held bound is the value computed, or the end of the signed range it has passed. -/
theorem heldBound_eq_ite (x : Int) :
    heldBound x = if x < -32768 then -32768 else if 32767 < x then 32767 else x := by
  unfold heldBound
  omega

/-- A bound lowered from a signed field does not rise above the field when it is held. -/
theorem heldBound_sub_le (b : BitVec 16) (h : Nat) : heldBound (b.toInt - h) ≤ b.toInt := by
  have := BitVec.le_toInt b
  unfold heldBound
  omega

/-- A bound raised from a signed field does not sink below the field when it is held. -/
theorem le_heldBound_add (b : BitVec 16) (h : Nat) : b.toInt ≤ heldBound (b.toInt + h) := by
  have := BitVec.toInt_lt (x := b)
  unfold heldBound
  omega

/-- A signed field is in the range a bound is held to. -/
theorem heldBound_toInt (b : BitVec 16) : heldBound b.toInt = b.toInt := by
  have := BitVec.le_toInt b
  have := BitVec.toInt_lt (x := b)
  unfold heldBound
  omega

section
variable {c : Condition} (v : Int)

theorem satisfiedBy_of_above (ht : c.test = .above) : c.satisfiedBy v = true ↔ c.threshold.toInt < v := by
  simp only [Condition.satisfiedBy, ht, decide_eq_true_eq]

theorem rereadyBy_of_above (ht : c.test = .above) :
    c.rereadyBy v = true ↔ v ≤ heldBound (c.threshold.toInt - c.hysteresis) := by
  simp only [Condition.rereadyBy, ht, decide_eq_true_eq]

theorem satisfiedBy_of_below (ht : c.test = .below) : c.satisfiedBy v = true ↔ v < c.threshold.toInt := by
  simp only [Condition.satisfiedBy, ht, decide_eq_true_eq]

theorem rereadyBy_of_below (ht : c.test = .below) :
    c.rereadyBy v = true ↔ heldBound (c.threshold.toInt + c.hysteresis) ≤ v := by
  simp only [Condition.rereadyBy, ht, decide_eq_true_eq]

theorem satisfiedBy_of_inside (ht : c.test = .inside) :
    c.satisfiedBy v = true ↔ c.low.toInt ≤ v ∧ v ≤ c.high.toInt := by
  simp only [Condition.satisfiedBy, ht, decide_eq_true_eq]

theorem rereadyBy_of_inside (ht : c.test = .inside) :
    c.rereadyBy v = true ↔ v < heldBound (c.low.toInt - c.hysteresis) ∨ heldBound (c.high.toInt + c.hysteresis) < v := by
  simp only [Condition.rereadyBy, ht, decide_eq_true_eq]

theorem satisfiedBy_of_outside (ht : c.test = .outside) :
    c.satisfiedBy v = true ↔ v < c.low.toInt ∨ c.high.toInt < v := by
  simp only [Condition.satisfiedBy, ht, decide_eq_true_eq]

theorem rereadyBy_of_outside (ht : c.test = .outside) :
    c.rereadyBy v = true ↔ heldBound (c.low.toInt + c.hysteresis) ≤ v ∧ v ≤ heldBound (c.high.toInt - c.hysteresis) := by
  simp only [Condition.rereadyBy, ht, decide_eq_true_eq]

/-- No value is both satisfied and re-ready: the hysteresis moves a held bound away from the satisfied side (R51). -/
theorem not_satisfiedBy_and_rereadyBy (c : Condition) : ¬ (c.satisfiedBy v = true ∧ c.rereadyBy v = true) := by
  rintro ⟨hs, hr⟩
  cases ht : c.test with
  | above =>
    rw [satisfiedBy_of_above v ht] at hs
    rw [rereadyBy_of_above v ht] at hr
    have := heldBound_sub_le c.threshold c.hysteresis
    omega
  | below =>
    rw [satisfiedBy_of_below v ht] at hs
    rw [rereadyBy_of_below v ht] at hr
    have := le_heldBound_add c.threshold c.hysteresis
    omega
  | inside =>
    rw [satisfiedBy_of_inside v ht] at hs
    rw [rereadyBy_of_inside v ht] at hr
    have := heldBound_sub_le c.low c.hysteresis
    have := le_heldBound_add c.high c.hysteresis
    omega
  | outside =>
    rw [satisfiedBy_of_outside v ht] at hs
    rw [rereadyBy_of_outside v ht] at hr
    have := le_heldBound_add c.low c.hysteresis
    have := heldBound_sub_le c.high c.hysteresis
    omega
  | high => simp [Condition.satisfiedBy, ht] at hs
  | low => simp [Condition.satisfiedBy, ht] at hs

/-- With no hysteresis every value is one or the other: the held bounds are the fields themselves (R51). -/
theorem satisfiedBy_or_rereadyBy (hhigh : c.test ≠ .high) (hlow : c.test ≠ .low) (hh : c.hysteresis = 0) :
    c.satisfiedBy v = true ∨ c.rereadyBy v = true := by
  cases ht : c.test with
  | above =>
    rw [satisfiedBy_of_above v ht, rereadyBy_of_above v ht, hh, Nat.cast_zero, Int.sub_zero, heldBound_toInt]
    omega
  | below =>
    rw [satisfiedBy_of_below v ht, rereadyBy_of_below v ht, hh, Nat.cast_zero, Int.add_zero, heldBound_toInt]
    omega
  | inside =>
    rw [satisfiedBy_of_inside v ht, rereadyBy_of_inside v ht, hh, Nat.cast_zero, Int.sub_zero, Int.add_zero,
      heldBound_toInt, heldBound_toInt]
    omega
  | outside =>
    rw [satisfiedBy_of_outside v ht, rereadyBy_of_outside v ht, hh, Nat.cast_zero, Int.sub_zero, Int.add_zero,
      heldBound_toInt, heldBound_toInt]
    omega
  | high => exact absurd ht hhigh
  | low => exact absurd ht hlow

end

/-! ## The readiness table (R53) -/

section
variable {c : Condition} (satisfied reready : Bool)

/-- The first value only tells on which side of its band the condition stands. -/
theorem evaluate_of_unknown (h : c.readiness = .unknown) :
    c.evaluate satisfied reready =
      if satisfied then { c with readiness := .spent, runCount := 0 } else { c with readiness := .ready, runCount := 0 } := by
  simp only [Condition.evaluate, h]

/-- A READY condition counts satisfying values in a row, and fires at the one that makes its qualify count. -/
theorem evaluate_of_ready (h : c.readiness = .ready) :
    c.evaluate satisfied reready =
      if satisfied then
        if c.runCount + 1 = c.qualifyCount then { c with readiness := .spent, runCount := 0, fired := some c.role }
        else { c with runCount := c.runCount + 1 }
      else { c with runCount := 0 } := by
  simp only [Condition.evaluate, h]

/-- A SPENT condition waits for a re-ready value. -/
theorem evaluate_of_spent (h : c.readiness = .spent) :
    c.evaluate satisfied reready =
      if reready then { c with readiness := .ready, runCount := 0 } else { c with runCount := 0 } := by
  simp only [Condition.evaluate, h]

end

/-! ## The level of a line (R50, R52) -/

section
variable {c : Condition} (lines : Lines)

theorem onLines_of_off (h : c.role = .off) : c.onLines lines = c := if_pos h

/-- A condition on an entry sees no line. -/
theorem onLines_of_entry {i : Nat} (h : c.source = .entry i) : c.onLines lines = c := by
  simp only [Condition.onLines, h, ite_self]

/-- A condition on a line is evaluated on that line's level. -/
theorem onLines_of_line {level : Bool} (hr : c.role ≠ .off)
    (h : (c.source = .trig0 ∧ level = lines.trig0) ∨ (c.source = .trig1 ∧ level = lines.trig1)) :
    c.onLines lines = c.evaluate (c.satisfiedByLevel level) (c.rereadyByLevel level) := by
  rcases h with ⟨hs, rfl⟩ | ⟨hs, rfl⟩ <;> simp only [Condition.onLines, if_neg hr, hs]

theorem evaluate_level_of_high (level : Bool) (h : c.test = .high) :
    c.evaluate (c.satisfiedByLevel level) (c.rereadyByLevel level) = c.evaluate level (!level) := by
  simp only [Condition.satisfiedByLevel, Condition.rereadyByLevel, h]

theorem evaluate_level_of_low (level : Bool) (h : c.test = .low) :
    c.evaluate (c.satisfiedByLevel level) (c.rereadyByLevel level) = c.evaluate (!level) level := by
  simp only [Condition.satisfiedByLevel, Condition.rereadyByLevel, h]

end

/-- Settles O50: the table of R51 test by test, the table of R53 by the readiness before, and R52 by the source. -/
theorem evaluationFollowsTheReadinessTable : Obligations.EvaluationFollowsTheReadinessTable := by
  refine ⟨fun c v => ?tests, fun c v _ _ => ⟨not_satisfiedBy_and_rereadyBy v c, fun hhigh hlow hh _ =>
    satisfiedBy_or_rereadyBy v hhigh hlow hh⟩, fun c satisfied reready => ?readiness,
    fun c => ⟨fun _ _ => rfl, fun _ => rfl⟩,
    fun c lines => ⟨onLines_of_off lines, fun _ => onLines_of_entry lines, fun level hr hs => ?line⟩⟩
  case tests =>
    dsimp only
    simp only [← heldBound_eq_ite]
    exact ⟨fun ht => ⟨satisfiedBy_of_above v ht, rereadyBy_of_above v ht⟩,
      fun ht => ⟨satisfiedBy_of_below v ht, rereadyBy_of_below v ht⟩,
      fun ht => ⟨satisfiedBy_of_inside v ht, rereadyBy_of_inside v ht⟩,
      fun ht => ⟨satisfiedBy_of_outside v ht, rereadyBy_of_outside v ht⟩⟩
  case readiness =>
    refine ⟨fun h hs => ?_, fun h hs => ?_, fun h hs hq => ?_, fun h hs hq => ?_, fun h hs => ?_, fun h hr => ?_,
      fun h hr => ?_⟩
    · rw [evaluate_of_unknown _ _ h, if_pos hs]
    · rw [evaluate_of_unknown _ _ h, hs, if_neg Bool.false_ne_true]
    · rw [evaluate_of_ready _ _ h, if_pos hs, if_pos hq]
    · rw [evaluate_of_ready _ _ h, if_pos hs, if_neg hq]
    · rw [evaluate_of_ready _ _ h, hs, if_neg Bool.false_ne_true]
    · rw [evaluate_of_spent _ _ h, if_pos hr]
    · rw [evaluate_of_spent _ _ h, hr, if_neg Bool.false_ne_true]
  case line =>
    rw [onLines_of_line lines hr hs]
    exact ⟨evaluate_level_of_high level, evaluate_level_of_low level⟩

/-! ## The verdict (R58) -/

/-- The first condition fired with a role is the one found, at its number counted from k. -/
theorem firstFired_of_first {role : Role} {cs : List Condition} {n : Nat} (k : Nat)
    (hfired : ∃ c, cs[n]? = some c ∧ c.fired = some role)
    (hfirst : ∀ m, m < n → ¬ ∃ c, cs[m]? = some c ∧ c.fired = some role) : firstFired role cs k = some (k + n) := by
  induction cs generalizing n k with
  | nil =>
    obtain ⟨c, hc, -⟩ := hfired
    cases hc
  | cons d ds ih =>
    cases n with
    | zero =>
      obtain ⟨c, hc, hrole⟩ := hfired
      cases hc
      exact if_pos hrole
    | succ n =>
      have hd : d.fired ≠ some role := fun hd => hfirst 0 n.succ_pos ⟨d, rfl, hd⟩
      have hrest : firstFired role ds (k + 1) = some (k + 1 + n) :=
        ih (k + 1) hfired fun m hm => hfirst (m + 1) (Nat.succ_lt_succ hm)
      rw [firstFired, if_neg hd, hrest, Nat.add_right_comm, Nat.add_assoc]

/-- One is found exactly when one has fired with the role. -/
theorem firstFired_isSome_iff {role : Role} {cs : List Condition} {k : Nat} :
    (firstFired role cs k).isSome = true ↔ ∃ c ∈ cs, c.fired = some role := by
  rw [Option.isSome_iff_ne_none, ne_eq, firstFired_eq_none]
  push Not
  rfl

/-- A condition of the table has a number in it. -/
theorem exists_number_fired {role : Role} {cs : List Condition} :
    (∃ (n : Nat) (c : Condition), cs[n]? = some c ∧ c.fired = some role) ↔ ∃ c ∈ cs, c.fired = some role := by
  simp only [List.mem_iff_getElem?]
  exact ⟨fun ⟨n, c, hc, hr⟩ => ⟨c, ⟨n, hc⟩, hr⟩, fun ⟨c, ⟨n, hc⟩, hr⟩ => ⟨n, c, hc, hr⟩⟩

/-- The stages in which a FIRE condition's fire can trigger are OPEN and QUALIFIED. -/
theorem admitsFire_iff (x : Stage) : x.admitsFire = true ↔ x = .openStage ∨ ∃ w, x = .qualified w := by
  cases x <;> simp [Stage.admitsFire]

section
variable {t : TriggerUnit}

theorem verdict_of_forced (h : t.forced = true) : t.verdict = .trigger .force := if_pos h

/-- Only a forced verdict has cause FORCE. -/
theorem verdict_eq_force_iff : t.verdict = .trigger .force ↔ t.forced = true := by
  refine ⟨fun h => ?_, verdict_of_forced⟩
  by_contra hforced
  rw [TriggerUnit.verdict, if_neg hforced] at h
  split at h
  · cases h
  · split at h <;> cases h

/-- The first FIRE condition that fired is the cause, in a stage that admits it. -/
theorem verdict_of_firstFired {n : Nat} (hforced : t.forced = false) (hstage : t.stage.admitsFire = true)
    (hn : firstFired .fire t.conditions 0 = some n) : t.verdict = .trigger (.condition n) := by
  simp [TriggerUnit.verdict, hforced, hstage, hn]

/-- With no fire that can trigger, a QUALIFY condition's fire decides between QUALIFY and NONE. -/
theorem verdict_of_no_fire (hforced : t.forced = false)
    (hnone : ¬ (t.stage.admitsFire = true ∧ (firstFired .fire t.conditions 0).isSome = true)) :
    t.verdict = if (firstFired .qualify t.conditions 0).isSome then .qualify else .none := by
  have hfire : (if t.stage.admitsFire then firstFired .fire t.conditions 0 else none) = none := by
    split
    next hstage => exact Option.not_isSome_iff_eq_none.mp fun hsome => hnone ⟨hstage, hsome⟩
    next => rfl
  rw [TriggerUnit.verdict, hforced, if_neg Bool.false_ne_true, hfire]

end

/-- A forced verdict clears the flag, and capture receives the verdict (R11 steps 2 and 3, R58). -/
theorem judgeSweep_eq (number : Word) (s : State) :
    judgeSweep number s = receiveCompleted s.trigger.verdict number
      (if s.trigger.forced = true then { s with trigger.forced := false } else s) := by
  simp only [judgeSweep, verdict_eq_force_iff, clearForced]

/-- Settles O51: the cases of R58 in their order. -/
theorem verdictIsTheFirstCaseThatHolds : Obligations.VerdictIsTheFirstCaseThatHolds := by
  refine ⟨fun s number => judgeSweep_eq number s, fun t => ?_⟩
  dsimp only
  simp only [← admitsFire_iff, exists_number_fired, ← firstFired_isSome_iff (k := 0)]
  refine ⟨verdict_of_forced, fun hforced hstage n hn hfirst => ?fire, fun hforced hnone hqualify => ?qualify,
    fun hforced hnone hqualify => ?none⟩
  case fire => exact verdict_of_firstFired hforced hstage (by simpa using firstFired_of_first 0 hn hfirst)
  case qualify => rw [verdict_of_no_fire hforced hnone, if_pos hqualify]
  case none => rw [verdict_of_no_fire hforced hnone, if_neg hqualify]

end Sys2Proof.Machine
end

section
/-! PROOFS. The block request of a sweep, and the history it drops for space (04): O45. -/

namespace Sys2Proof.Machine

/-! ## Dropping the oldest blocks (R76 step 1) -/

section
variable {cost free : Nat} (b : Block) (bs : List Block)

theorem dropWhileShort_cons_of_lt (h : free < cost) :
    dropWhileShort cost (b :: bs) free =
      ((dropWhileShort cost bs (free + b.cost)).1, (dropWhileShort cost bs (free + b.cost)).2.1,
        (dropWhileShort cost bs (free + b.cost)).2.2 + 1) := if_pos h

theorem dropWhileShort_cons_of_le (h : cost ≤ free) : dropWhileShort cost (b :: bs) free = (b :: bs, free, 0) :=
  if_neg (Nat.not_lt.mpr h)

end

/-- Before each drop the free count with the drops made so far is short of the cost. -/
theorem lt_cost_of_lt_drops {cost free j : Nat} {bs : List Block} (hj : j < (dropWhileShort cost bs free).2.2) :
    free + blocksCost (bs.take j) < cost := by
  induction bs generalizing free j with
  | nil => cases hj
  | cons b bs ih =>
    rcases Nat.lt_or_ge free cost with hshort | hfits
    · rw [dropWhileShort_cons_of_lt b bs hshort] at hj
      cases j with
      | zero => exact hshort
      | succ j =>
        rw [List.take_succ_cons, blocksCost_cons, ← Nat.add_assoc]
        exact ih (Nat.lt_of_succ_lt_succ hj)
    · rw [dropWhileShort_cons_of_le b bs hfits] at hj
      cases hj

/-- The drops end with room for the cost or with the ring empty. -/
theorem cost_le_or_drops_eq_length (cost : Nat) (bs : List Block) (free : Nat) :
    cost ≤ (dropWhileShort cost bs free).2.1 ∨ (dropWhileShort cost bs free).2.2 = bs.length := by
  induction bs generalizing free with
  | nil => exact .inr rfl
  | cons b bs ih =>
    rcases Nat.lt_or_ge free cost with hshort | hfits
    · rw [dropWhileShort_cons_of_lt b bs hshort]
      exact (ih (free + b.cost)).imp_right (congrArg (· + 1))
    · rw [dropWhileShort_cons_of_le b bs hfits]
      exact .inl hfits

/-- The drops free the cells of the blocks dropped. -/
theorem dropWhileShort_free (cost : Nat) (bs : List Block) (free : Nat) :
    (dropWhileShort cost bs free).2.1 = free + blocksCost (bs.take (dropWhileShort cost bs free).2.2) := by
  obtain ⟨hcells, hring, -⟩ := dropWhileShort_spec cost bs free
  have hsplit := blocksCost_append (bs.take (dropWhileShort cost bs free).2.2)
    (bs.drop (dropWhileShort cost bs free).2.2)
  rw [List.take_append_drop, ← hring] at hsplit
  omega

/-! ## The block request (R75 to R77) -/

/-- The number of history blocks a block request in FILLING or READY drops (R76 step 1). -/
def State.spaceDrops (s : State) : Nat := (dropWhileShort s.cost s.memory.history s.memory.free).2.2

/-- The drops for space, by their number: with none the capture state stays, else the new count sets it (R76). -/
theorem dropForSpace_eq (s : State) :
    dropForSpace s = { s with
      memory.history := s.memory.history.drop s.spaceDrops
      memory.free := s.memory.free + blocksCost (s.memory.history.take s.spaceDrops)
      counters.historySpaceDrops := satAdd s.counters.historySpaceDrops s.spaceDrops
      capture.state := if s.spaceDrops = 0 then s.capture.state
        else if s.memory.history.length - s.spaceDrops = s.params.pretriggerSweeps then .ready else .filling } := by
  obtain ⟨-, hring, -⟩ := dropWhileShort_spec s.cost s.memory.history s.memory.free
  have hdrops : (dropWhileShort s.cost s.memory.history s.memory.free).2.2 = s.spaceDrops := rfl
  simp only [dropForSpace, setArmedState, armedState, dropWhileShort_free, hring, hdrops, List.length_drop]
  split <;> rfl

section
variable (r : SweepRecord) {s : State}

theorem blockRequest_of_idle (h : s.capture.state = .idle) : blockRequest r s = s := by
  simp only [blockRequest, h]

theorem blockRequest_of_armed (h : s.capture.state = .filling ∨ s.capture.state = .ready) :
    blockRequest r s =
      if s.cost ≤ (dropForSpace s).memory.free then allocateBlock r (dropForSpace s)
      else countUnstored (dropForSpace s) := by
  rcases h with h | h <;> simp only [blockRequest, h]

theorem blockRequest_of_post (h : s.capture.state = .post) :
    blockRequest r s = if s.cost ≤ s.memory.free then allocateBlock r s else closeTruncated (countUnstored s) := by
  simp only [blockRequest, h]

end

/-- Settles O45: each drop is made while the block does not fit, and the drops end when it fits or the ring is empty. -/
theorem blockRequestDropsNoMoreThanNeeded : Obligations.BlockRequestDropsNoMoreThanNeeded := by
  intro s r cost block stored unstored
  refine ⟨blockRequest_of_idle r, fun harmed => ?armed, blockRequest_of_post r⟩
  case armed =>
    obtain ⟨-, -, hle⟩ := dropWhileShort_spec s.cost s.memory.history s.memory.free
    have hends := cost_le_or_drops_eq_length s.cost s.memory.history s.memory.free
    rw [dropWhileShort_free] at hends
    refine ⟨s.spaceDrops, _, hle, fun j hj => lt_cost_of_lt_drops hj, hends, rfl, ?_⟩
    rw [blockRequest_of_armed r harmed, dropForSpace_eq]
    rfl

end Sys2Proof.Machine
end

section
/-! PROOFS. The capture sequence (05): ARM and CLEAR_HALT, what a completed sweep becomes, the opening of a record, the quota
path and the halt: O23, O25, O52, O53, O55. -/

namespace Sys2Proof.Machine

/-! ## CLEAR_HALT (R105) -/

section
variable {r : Request} (s : State)

theorem clearHaltBody_of_clearable (ha : r.args = []) (hhalted : s.capture.state = .halted)
    (hstopped : s.sweeper.run = .stopped) :
    clearHaltBody r s = respond r .done [] { s with capture.state := .idle, capture.haltCause := .none } := by
  simp only [clearHaltBody, ha, if_pos (And.intro hhalted hstopped)]

theorem clearHaltBody_of_not_clearable (ha : r.args = [])
    (h : s.capture.state ≠ .halted ∨ s.sweeper.run ≠ .stopped) : clearHaltBody r s = respond r .badState [] s := by
  simp only [clearHaltBody, ha, if_neg (not_and_or.mpr h)]

end

/-- Settles O25: the one test of R105, which needs both the halt and the stopped run. -/
theorem clearHaltNeedsTheRunStopped : Obligations.ClearHaltNeedsTheRunStopped := by
  intro s r rest h hk ha
  rw [h.exec_request (c := .clearHalt) rfl hk]
  refine ⟨fun hhalted hstopped => ?cleared, fun hno => ?refused⟩
  case cleared =>
    rw [clearHaltBody_of_clearable (popRequest s) ha hhalted hstopped, h.popped]
    rfl
  case refused => rw [clearHaltBody_of_not_clearable (popRequest s) ha hno, h.respond_popped]

/-! ## ARM (R89, R90) -/

section
variable {r : Request} (s : State)

theorem armBody_of_not_idle (ha : r.args = []) (h : s.capture.state ≠ .idle) :
    armBody r s = respond r .badState [] s := by
  simp only [armBody, ha, if_pos h]

theorem armBody_of_oversize (ha : r.args = []) (hidle : s.capture.state = .idle) (hsize : 8192 < s.fullRecord) :
    armBody r s = respond r .badValue [] s := by
  simp only [armBody, ha, if_neg (not_not.mpr hidle), if_pos hsize]

theorem armBody_of_no_space (ha : r.args = []) (hidle : s.capture.state = .idle) (hfits : s.fullRecord ≤ 8192)
    (hfree : s.memory.free < 4) : armBody r s = respond r .noSpace [] s := by
  simp only [armBody, ha, if_neg (not_not.mpr hidle), if_neg (Nat.not_lt.mpr hfits), if_pos hfree]

theorem armBody_of_queue_full (ha : r.args = []) (hidle : s.capture.state = .idle) (hfits : s.fullRecord ≤ 8192)
    (hfree : 4 ≤ s.memory.free) (hfull : 16 ≤ s.delivery.queue.length) :
    armBody r s = respond r .queueFull [] s := by
  simp only [armBody, ha, if_neg (not_not.mpr hidle), if_neg (Nat.not_lt.mpr hfits), if_neg (Nat.not_lt.mpr hfree),
    if_pos hfull]

theorem armBody_of_accepted (ha : r.args = []) (hidle : s.capture.state = .idle) (hfits : s.fullRecord ≤ 8192)
    (hfree : 4 ≤ s.memory.free) (hplace : s.delivery.queue.length < 16) :
    armBody r s = respond r .done [word s.armS, word (2 + s.armS), word s.fullRecord] (armEffects s) := by
  simp only [armBody, ha, if_neg (not_not.mpr hidle), if_neg (Nat.not_lt.mpr hfits), if_neg (Nat.not_lt.mpr hfree),
    if_neg (Nat.not_le.mpr hplace)]

end

/-- With an empty history the state that arming enters is READY exactly when no block is wanted in it (R90, R93). -/
theorem armedState_of_no_history {s : State} (h : s.memory.history = []) :
    armedState s = if s.params.pretriggerSweeps = 0 then .ready else .filling := by
  simp [armedState, h, eq_comm]

/-- Arming takes the reservation, sets the stage afresh, and enters READY or FILLING (R90). -/
theorem armNow_of_no_history {s : State} (h : s.memory.history = []) :
    armNow s = { s with
      memory.free := s.memory.free - 4
      memory.reservation := 4
      trigger.stage := freshStage s.trigger.conditions
      capture.state := if s.params.pretriggerSweeps = 0 then .ready else .filling } := by
  rw [← armedState_of_no_history h]
  rfl

/-- ARM loads the quota as it arms; the history is empty, because capture is IDLE (R81, R90). -/
theorem armEffects_of_no_history {s : State} (h : s.memory.history = []) :
    armEffects s = { s with
      memory.free := s.memory.free - 4
      memory.reservation := 4
      trigger.stage := freshStage s.trigger.conditions
      capture.quota := s.params.captureQuota
      capture.state := if s.params.pretriggerSweeps = 0 then .ready else .filling } :=
  armNow_of_no_history (s := { s with capture.quota := s.params.captureQuota }) h

/-- Settles O23: the four checks of R89 in their order, and R90 when all are passed. -/
theorem armChecksThenArms : Obligations.ArmChecksThenArms := by
  intro s r rest h hk ha n full idle
  rw [h.exec_request (c := .arm) rfl hk]
  refine ⟨fun hbusy => ?notIdle, fun hidle hsize => ?oversize, fun hidle hfits hfree => ?noSpace,
    fun hidle hfits hfree hfull => ?queueFull, fun hidle hfits hfree hplace hempty => ?accepted⟩
  case notIdle => rw [armBody_of_not_idle (popRequest s) ha hbusy, h.respond_popped]
  case oversize => rw [armBody_of_oversize (popRequest s) ha hidle hsize, h.respond_popped]
  case noSpace => rw [armBody_of_no_space (popRequest s) ha hidle hfits hfree, h.respond_popped]
  case queueFull => rw [armBody_of_queue_full (popRequest s) ha hidle hfits hfree hfull, h.respond_popped]
  case accepted =>
    rw [armBody_of_accepted (popRequest s) ha hidle hfits hfree hplace,
      armEffects_of_no_history (s := popRequest s) hempty, h.popped]
    rfl

/-! ## The opening of a record (R95) -/

/-- TRIGOUT at a taken trigger goes by its mode (R67). -/
theorem trigoutTaken_of_mode (s : State) (mode : TrigoutMode) :
    s.params.trigoutMode = mode → trigoutTaken s = match mode with
      | .off => s
      | .pulse => { s with trigger.trigout := true, trigger.pulse := some 10 }
      | .level => { s with trigger.trigout := true } := by
  rintro rfl
  rfl

/-- The stage set afresh goes by the conditions of the Trigger Unit (R56). -/
theorem setStageAfresh_of_trigger {s : State} {t : TriggerUnit} (h : s.trigger = t) :
    setStageAfresh s = { s with trigger.stage := freshStage t.conditions } := by
  subst h
  rfl

/-- Settles O53: the notice and the stage leave the mode of TRIGOUT and the conditions as they were. -/
theorem recordOpensByHandOver : Obligations.RecordOpensByHandOver := by
  intro s cause number short a b
  have hmode : b.params.trigoutMode = s.params.trigoutMode := by simp [b, a]
  calc openRecord cause number s
      = trigoutTaken (setStageAfresh (postNotice _ a)) := rfl
    _ = trigoutTaken b := congrArg trigoutTaken (setStageAfresh_of_trigger (t := s.trigger) (by simp [a]))
    _ = _ := trigoutTaken_of_mode b _ hmode

/-! ## The quota path and the halt (R23, R100 to R104) -/

section
variable {s : State}

theorem quotaPath_of_quota_left (h : 0 < s.capture.quota) : quotaPath s = rearm s := if_pos h

theorem quotaPath_of_quota_repeat (h : s.capture.quota = 0) (hrepeat : s.params.quotaRepeat = true) :
    quotaPath s = rearm { s with capture.quota := s.params.captureQuota } := by
  simp only [quotaPath, if_neg (Nat.not_lt.mpr h.le), if_pos hrepeat]

theorem quotaPath_of_quota_spent (h : s.capture.quota = 0) (honce : s.params.quotaRepeat = false) :
    quotaPath s = { s with capture.state := .idle } := by
  simp [quotaPath, h, honce]

/-- A run that is over or on its way there is left as it is. -/
theorem haltStopDemand_of_ending (h : s.sweeper.run = .stopped ∨ s.sweeper.run = .stopping) : haltStopDemand s = s := by
  rcases h with h | h <;> simp only [haltStopDemand, h]

/-- During a sweep the run goes STOPPING. -/
theorem haltStopDemand_of_sweep (hrun : s.sweeper.run = .running ∨ s.sweeper.run = .burst)
    (hsweep : s.sweeper.sweep ≠ none) : haltStopDemand s = beginStopping .halt s := by
  have hsome : s.sweeper.sweep.isSome = true := Option.isSome_iff_ne_none.mpr hsweep
  rcases hrun with h | h <;> simp only [haltStopDemand, h, if_pos hsome]

/-- With no sweep to wait for, the run ends at once. -/
theorem haltStopDemand_of_no_sweep (hrun : s.sweeper.run = .running ∨ s.sweeper.run = .burst)
    (hsweep : s.sweeper.sweep = none) : haltStopDemand s = endRun .halt s := by
  rcases hrun with h | h <;> simp [haltStopDemand, h, hsweep]

end

/-- Settles O55: the three ways of R100, and the halt stop demand, which finds the run as the HALTED notice leaves it. -/
theorem quotaPathRearmsOrHalts : Obligations.QuotaPathRearmsOrHalts := by
  refine ⟨fun s => ?quota, fun s cause => ?halt⟩
  case quota =>
    intro rearmed
    exact ⟨quotaPath_of_quota_left, quotaPath_of_quota_repeat, quotaPath_of_quota_spent⟩
  case halt =>
    intro h
    have henter : enterHalted cause s = haltStopDemand h := rfl
    have hsweeper : h.sweeper = s.sweeper := by simp [h]
    rw [henter, ← hsweeper]
    exact ⟨haltStopDemand_of_ending, haltStopDemand_of_sweep, haltStopDemand_of_no_sweep⟩

/-! ## What a completed sweep becomes (R59, R80, R81, R92 to R97) -/

section
variable (v : Verdict) (number : Word) {s : State}

theorem receiveCompleted_of_disarmed (h : s.capture.state = .idle ∨ s.capture.state = .halted) :
    receiveCompleted v number s = discardBlock s := by
  rcases h with h | h <;> simp only [receiveCompleted, h]

/-- A TRIGGER is taken in READY, and in FILLING when early triggers are accepted (R94). -/
theorem receiveCompleted_of_taken (cause : Cause) (harmed : s.capture.state = .filling ∨ s.capture.state = .ready)
    (htaken : s.capture.state = .ready ∨ s.params.earlyAccept = true) :
    receiveCompleted (.trigger cause) number s = openRecord cause number s := by
  rcases harmed with hf | hr
  · have hearly : s.params.earlyAccept = true := by simpa [hf] using htaken
    simp only [receiveCompleted, hf, if_pos hearly]
  · simp only [receiveCompleted, hr]

/-- Any other verdict changes the stage, and the block goes to the history (R59, R93). -/
theorem receiveCompleted_of_not_taken (harmed : s.capture.state = .filling ∨ s.capture.state = .ready)
    (hnot : (∃ cause, v = .trigger cause) → ¬ (s.capture.state = .ready ∨ s.params.earlyAccept = true)) :
    receiveCompleted v number s = historyAppend (stageByVerdict v s) := by
  cases v with
  | trigger cause =>
    obtain ⟨hready, hearly⟩ := not_or.mp (hnot ⟨cause, rfl⟩)
    have hf : s.capture.state = .filling := harmed.resolve_right hready
    simp only [receiveCompleted, hf, if_neg hearly]
  | qualify => rcases harmed with h | h <;> simp only [receiveCompleted, h]
  | none => rcases harmed with h | h <;> simp only [receiveCompleted, h]

theorem receiveCompleted_of_post (h : s.capture.state = .post) : receiveCompleted v number s = postAppend s := by
  simp only [receiveCompleted, h]

end

/-- A sweep without a verdict counts the window down, and its last one closes it (R59). -/
theorem stageAfter_none_qualified (window w : Nat) :
    stageAfter window .none (.qualified w) = if 1 < w then .qualified (w - 1) else .awaitQualifier := by
  simp only [stageAfter, Nat.sub_pos_iff_lt]

/-- The number of blocks that leave a ring when it is trimmed to its bound (R81). -/
def trimCount (pre : Nat) (history : List Block) : Nat := if pre < history.length then 1 else 0

theorem trimHistory_of_fits {s : State} (h : s.memory.history.length ≤ s.params.pretriggerSweeps) :
    trimHistory s = s := by
  unfold trimHistory
  split
  case h_1 b bs hring => exact if_neg (Nat.not_lt.mpr (hring ▸ h))
  case h_2 => rfl

theorem trimHistory_of_over {s : State} {b : Block} {bs : List Block} (hring : s.memory.history = b :: bs)
    (h : s.params.pretriggerSweeps < (b :: bs).length) :
    trimHistory s = { s with memory.history := bs, memory.free := s.memory.free + b.cost } := by
  simp only [trimHistory, hring, if_pos h]

/-- The trim drops that many of the oldest blocks and frees their cells (R81). -/
theorem trimHistory_eq (s : State) :
    trimHistory s = { s with
      memory.history := s.memory.history.drop (trimCount s.params.pretriggerSweeps s.memory.history)
      memory.free := s.memory.free +
        blocksCost (s.memory.history.take (trimCount s.params.pretriggerSweeps s.memory.history)) } := by
  rcases Nat.lt_or_ge s.params.pretriggerSweeps s.memory.history.length with hover | hfits
  · obtain ⟨b, bs, hring⟩ := List.exists_cons_of_length_pos (Nat.zero_lt_of_lt hover)
    have hcount : trimCount s.params.pretriggerSweeps s.memory.history = 1 := if_pos hover
    rw [hcount, trimHistory_of_over hring (hring ▸ hover), hring]
    simp [blocksCost]
  · have hcount : trimCount s.params.pretriggerSweeps s.memory.history = 0 := if_neg (Nat.not_lt.mpr hfits)
    rw [hcount, trimHistory_of_fits hfits]
    simp [blocksCost]

theorem historyAppend_of_block {s : State} {b : Block} (h : s.memory.current = some b) :
    historyAppend s = setArmedState
      (trimHistory { s with memory.history := s.memory.history ++ [b], memory.current := none }) := by
  simp only [historyAppend, h]

/-- An unstored sweep appends nothing, and the state is set from the count as it stands (R93). -/
theorem historyAppend_of_unstored {s : State} (h : s.memory.current = none) : historyAppend s = setArmedState s := by
  simp only [historyAppend, h]

/-- The block of a sweep in POST joins the open record, whose count falls; at 0 the record closes normally (R97). -/
theorem postAppend_of_open {s : State} {o : OpenRecord} (h : s.capture.openRecord = some o) :
    postAppend s =
      let a : State := { s with
        capture.openRecord := some { o with
          blocks := o.blocks ++ s.memory.current.toList
          postRemaining := o.postRemaining - 1 }
        memory.current := none }
      if o.postRemaining ≤ 1 then quotaPath (closeRecord false false a) else a := by
  simp only [postAppend, h, closeNormally, Nat.sub_eq_zero_iff_le]

/-- Settles O52: by the capture state, and while armed by whether the verdict is a TRIGGER that is taken. -/
theorem completedSweepsGoByCaptureState : Obligations.CompletedSweepsGoByCaptureState := by
  refine ⟨fun s v number => ?_, fun s v number o hpost hopen => ?post⟩
  case post => rw [receiveCompleted_of_post v number hpost, postAppend_of_open hopen]
  intro stage armed taken pre
  have hstage : stageAfter s.params.qualifyWindow v s.trigger.stage = stage := by
    unfold stage
    cases v with
    | trigger cause => rfl
    | qualify => rfl
    | none =>
      cases s.trigger.stage with
      | qualified w => exact stageAfter_none_qualified _ w
      | openStage => rfl
      | awaitQualifier => rfl
  refine ⟨fun hdisarmed => ?disarmed, fun cause harmed htaken hv => ?taken, fun harmed hnot => ?notTaken⟩
  case disarmed =>
    rw [receiveCompleted_of_disarmed v number hdisarmed]
    rfl
  case taken =>
    subst hv
    exact receiveCompleted_of_taken number cause harmed htaken
  case notTaken =>
    rw [receiveCompleted_of_not_taken v number harmed hnot, ← hstage]
    refine ⟨fun b hblock => ?stored, fun hnone => ?unstored⟩
    case stored =>
      rw [historyAppend_of_block (s := stageByVerdict v s) hblock, trimHistory_eq]
      rfl
    case unstored =>
      rw [historyAppend_of_unstored (s := stageByVerdict v s) hnone]
      rfl

end Sys2Proof.Machine
end

section
/-! PROOFS. The delivery of records (06): the windows, the discards, the record frames: O26, O28, O57. -/

namespace Sys2Proof.Machine

/-! ## OPEN_WINDOW (R115) -/

/-- A window named is named by 0 or 1. -/
theorem le_one_of_argWindow {w : Word} {x : WindowId} (h : argWindow w = some x) : w.toNat ≤ 1 := by
  by_contra hw
  rw [argWindow_of_lt (Nat.lt_of_not_le hw)] at h
  cases h

section
variable {r : Request} (s : State) {w n t e : Word}

theorem openWindowBody_of_out_of_range (ha : r.args = [w, n, t, e])
    (hout : ¬ (w.toNat ≤ 1 ∧ 1 ≤ n.toNat ∧ n.toNat ≤ 65535 ∧ t.toNat ≤ 255 ∧ e.toNat ≤ 1)) :
    openWindowBody r s = respond r .badValue [] s := by
  simp only [openWindowBody, ha]
  split
  · rename_i hw hn ht he
    obtain ⟨⟨hlow, hhigh⟩, -⟩ := argIn_eq_some.mp hn
    exact absurd ⟨le_one_of_argWindow hw, hlow, hhigh, le_of_argIn ht, le_one_of_argBool he⟩ hout
  · rfl

variable {x : WindowId}

theorem openWindowBody_of_opened (ha : r.args = [w, n, t, e]) (hw : argWindow w = some x)
    (hn : 1 ≤ n.toNat ∧ n.toNat ≤ 65535) (ht : t.toNat ≤ 255) (he : e.toNat ≤ 1)
    (hopen : (s.delivery.window x).opened = true) : openWindowBody r s = respond r .badState [] s := by
  have hsize : argIn 1 65535 n = some n.toNat := argIn_eq_some.mpr ⟨hn, rfl⟩
  simp only [openWindowBody, ha, hw, hsize, argIn_zero_of_le ht, argBool_of_le he, if_pos hopen]

theorem openWindowBody_of_closed (ha : r.args = [w, n, t, e]) (hw : argWindow w = some x)
    (hn : 1 ≤ n.toNat ∧ n.toNat ≤ 65535) (ht : t.toNat ≤ 255) (he : e.toNat ≤ 1)
    (hclosed : (s.delivery.window x).opened = false) :
    openWindowBody r s = respond r .done [] (putWindow x
      { opened := true, size := n.toNat, filled := 0, tag := t.setWidth 8, endAtRecord := decide (e = 1),
        closePending := false } s) := by
  have hsize : argIn 1 65535 n = some n.toNat := argIn_eq_some.mpr ⟨hn, rfl⟩
  simp only [openWindowBody, ha, hw, hsize, argIn_zero_of_le ht, argBool_of_le he, hclosed, BitVec.ofNat_toNat,
    Bool.false_eq_true, if_false]

end

/-- Settles O26: the range check of R115 comes first, then the window's state; the window named is A for 0 and B for 1. -/
theorem openWindowOpensAClosedWindow : Obligations.OpenWindowOpensAClosedWindow := by
  intro s r rest w n t e h hk ha inRange old x a
  rw [h.exec_request (c := .openWindow) rfl hk]
  have hold : (popRequest s).delivery.window (if w = 0 then .a else .b) = old := by
    simp only [old, popRequest_keeps]
    split <;> rfl
  refine ⟨fun hout => ?outOfRange, fun ⟨hw, hlow, hhigh, ht, he⟩ hopen => ?opened,
    fun ⟨hw, hlow, hhigh, ht, he⟩ hclosed => ?closed⟩
  case outOfRange => rw [openWindowBody_of_out_of_range (popRequest s) ha hout, h.respond_popped]
  case opened =>
    rw [← hold] at hopen
    rw [openWindowBody_of_opened (popRequest s) ha (argWindow_of_le hw) ⟨hlow, hhigh⟩ ht he hopen, h.respond_popped]
  case closed =>
    rw [← hold] at hclosed
    rw [openWindowBody_of_closed (popRequest s) ha (argWindow_of_le hw) ⟨hlow, hhigh⟩ ht he hclosed, h.popped]
    split <;> rfl

/-! ## The record a discard finds (R124) -/

/-- No record is found when none has the id. -/
theorem splitAtId_eq_none {id : BitVec 16} {l : List QueuedRecord} (h : ∀ q ∈ l, q.header.id ≠ id) :
    splitAtId id l = none := by
  cases hs : splitAtId id l with
  | none => rfl
  | some found =>
    obtain ⟨before, q, after⟩ := found
    obtain ⟨hl, hq, -⟩ := splitAtId_eq_some hs
    exact absurd hq (h q (by simp [hl]))

/-- The head record is started when a part of it is sent or a frame of it is under way (R113). -/
theorem headStarted_iff (s : State) :
    s.headStarted = true ↔ 0 < s.delivery.position ∨ ∃ f, s.frameUnderWay = some f ∧ f.abandoned = false := by
  unfold State.headStarted
  cases s.frameUnderWay <;> simp

section
variable {id : BitVec 16} {s : State}

theorem discardById_of_unknown (h : ∀ q ∈ s.delivery.queue, q.header.id ≠ id) :
    discardById id s = (if ∃ o, s.capture.openRecord = some o ∧ o.id = id then .badState else .notFound, s) := by
  simp only [discardById, splitAtId_eq_none h]
  cases s.capture.openRecord with
  | none => simp
  | some o => by_cases ho : o.id = id <;> simp [ho]

variable {before after : List QueuedRecord} {q : QueuedRecord}

/-- A record that is not the started head leaves the queue, and its cells are freed. -/
theorem discardById_of_not_started (hqueue : s.delivery.queue = before ++ q :: after)
    (hbefore : ∀ b ∈ before, b.header.id ≠ id) (hid : q.header.id = id) (h : before ≠ [] ∨ ¬ s.headStarted = true) :
    discardById id s =
      (.done, { s with memory.free := s.memory.free + q.cells.length, delivery.queue := before ++ after }) := by
  have hno : ¬ (before.isEmpty && s.headStarted) = true := by
    rw [Bool.and_eq_true, List.isEmpty_iff]
    exact not_and_or.mpr h
  simp only [discardById, hqueue, splitAtId_append hbefore hid, if_neg hno]
  rfl

theorem discardById_of_started (hqueue : s.delivery.queue = q :: after) (hid : q.header.id = id)
    (h : s.headStarted = true) : discardById id s = (.done, discardStartedHead q after s) := by
  have hsplit : splitAtId id (q :: after) = some ([], q, after) := splitAtId_append (before := []) (by simp) hid
  simp [discardById, hqueue, hsplit, h]

end

/-! ## A discard of the started head record (R124, R125) -/

section
variable (q : QueuedRecord) (after : List QueuedRecord) (s : State) {f : RecordFrame}

theorem discardStartedHead_of_last (hf : s.frameUnderWay = some f) (hrecord : f.abandoned = false)
    (hlast : f.last = true) : discardStartedHead q after s = s := by
  simp [discardStartedHead, hf, hrecord, hlast]

/-- The cells of the frame in transmission are all that stays (R125). -/
theorem discardStartedHead_of_not_last (hf : s.frameUnderWay = some f) (hrecord : f.abandoned = false)
    (hmore : f.last = false) :
    discardStartedHead q after s = { s with
      memory.free := s.memory.free + (q.cells.length - f.payload.length)
      delivery.queue := { q with cells := q.cells.take f.payload.length, discarded := true } :: after } := by
  simp [discardStartedHead, hf, hrecord, hmore, releaseCells]

/-- Between two frames the record leaves at once, and its abandonment note stands for it (R125). -/
theorem discardStartedHead_of_no_frame (hf : s.frameUnderWay = none) :
    discardStartedHead q after s = { s with
      memory.free := s.memory.free + q.cells.length
      delivery.queue := after
      delivery.position := 0
      delivery.note := some { id := q.header.id, position := s.delivery.position } } := by
  simp only [discardStartedHead, hf, releaseCells]

end

/-! ## DISCARD_RECORD (R124) -/

section
variable {r : Request} (s : State) {arg : Word}

theorem discardRecordBody_of_lt (ha : r.args = [arg]) (h : 65535 < arg.toNat) :
    discardRecordBody r s = respond r .badValue [] s := by
  simp only [discardRecordBody, ha, argIn_of_lt h]

theorem discardRecordBody_of_le (ha : r.args = [arg]) (h : arg.toNat ≤ 65535) {status : Status} {u : State}
    (hd : discardById (arg.setWidth 16) s = (status, u)) : discardRecordBody r s = respond r status [] u := by
  simp only [discardRecordBody, ha, argIn_zero_of_le h, BitVec.ofNat_toNat, hd]

end

/-- Settles O28: by where the record stands in the queue, and for the started head by the frame under way. -/
theorem discardRecordFreesWhatIsNotSent : Obligations.DiscardRecordFreesWhatIsNotSent := by
  intro s r rest arg h hk ha id a sending started
  rw [h.exec_request (c := .discardRecord) rfl hk]
  have hstarted : (popRequest s).headStarted = true ↔ started := headStarted_iff (popRequest s)
  refine ⟨fun hbig => ?tooBig, fun hle hno => ?unknown, fun hle before after q hqueue hbefore hid => ?found⟩
  case tooBig => rw [discardRecordBody_of_lt (popRequest s) ha hbig, h.respond_popped]
  case unknown =>
    rw [discardRecordBody_of_le (popRequest s) ha hle (discardById_of_unknown (s := popRequest s) hno), h.respond_popped]
    rfl
  case found =>
    have hhead (hfirst : before = []) (hs : started) :
        discardRecordBody r (popRequest s) = respond r .done [] (discardStartedHead q after (popRequest s)) := by
      subst hfirst
      exact discardRecordBody_of_le _ ha hle (discardById_of_started hqueue hid (hstarted.mpr hs))
    refine ⟨fun hwaits => ?notStarted, fun hfirst f ⟨hframe, hrecord⟩ hlast => ?last,
      fun hfirst f ⟨hframe, hrecord⟩ hmore => ?notLast, fun hfirst hlane hsent => ?noFrame⟩
    case notStarted =>
      have hno := hwaits.imp_right (mt hstarted.mp)
      rw [discardRecordBody_of_le _ ha hle (discardById_of_not_started (s := popRequest s) hqueue hbefore hid hno),
        h.popped]
      rfl
    case last =>
      rw [hhead hfirst (.inr ⟨f, hframe, hrecord⟩),
        discardStartedHead_of_last q after (popRequest s) hframe hrecord hlast, h.respond_popped]
    case notLast =>
      rw [hhead hfirst (.inr ⟨f, hframe, hrecord⟩),
        discardStartedHead_of_not_last q after (popRequest s) hframe hrecord hmore, h.popped]
      rfl
    case noFrame =>
      rw [hhead hfirst (.inl hsent), discardStartedHead_of_no_frame q after (popRequest s) hlane, hid, h.popped]
      rfl

/-! ## Record frames (R116, R117, R125) -/

/-- The four conditions of the offer (R116). -/
theorem offersRecord_iff (s : State) :
    s.offersRecord = true ↔ s.frameUnderWay = none ∧ s.deliveryPort.link.state = .up ∧
      ((s.delivery.window s.delivery.current).opened = true ∧
        (s.delivery.window s.delivery.current).closePending = false) ∧
      (s.delivery.queue ≠ [] ∨ s.delivery.note ≠ none) := by
  simp only [State.offersRecord, Bool.and_eq_true, Bool.or_eq_true, Bool.not_eq_true', decide_eq_true_eq,
    Option.isNone_iff_eq_none, Option.isSome_iff_ne_none, List.isEmpty_eq_false_iff, and_assoc]

theorem nextFrame_of_head {d : DeliveryUnit} {q : QueuedRecord} {rest : List QueuedRecord} (hnote : d.note = none)
    (hqueue : d.queue = q :: rest) : d.nextFrame = some (headFrame d q) := by
  simp only [DeliveryUnit.nextFrame, hnote, hqueue, List.head?_cons, Option.map_some]

theorem nextFrame_of_note {d : DeliveryUnit} {note : AbandonNote} (h : d.note = some note) :
    d.nextFrame = some (abandonedFrame d note) := by
  simp only [DeliveryUnit.nextFrame, h]

/-- Settles O57: the offer, the frame of the head record, the cells that record still holds, and the ABANDONED frame. -/
theorem recordFramesAreOfferedAndBuilt : Obligations.RecordFramesAreOfferedAndBuilt := by
  intro s d w
  refine ⟨offersRecord_iff s, fun q rest hnote hqueue => ?head, fun q hrecords hhead hkept => ?cells,
    fun note hnote => ?abandoned⟩
  case head => exact nextFrame_of_head hnote hqueue
  case cells => exact Nat.eq_sub_of_add_eq (hrecords.head q hhead hkept)
  case abandoned => exact nextFrame_of_note hnote

end Sys2Proof.Machine
end

section
/-! PROOFS. The Notice Queue and the event counters (07): O29, O56. -/

namespace Sys2Proof.Machine

/-! ## READ_COUNTERS (R139) -/

section
variable {r : Request} (s : State) {clear : Word}

theorem readCountersBody_of_lt (ha : r.args = [clear]) (h : 1 < clear.toNat) :
    readCountersBody r s = respond r .badValue [] s := by
  simp only [readCountersBody, ha, argBool_of_lt h]

/-- The values are taken for the response before yes sets the counters to 0. -/
theorem readCountersBody_of_le (ha : r.args = [clear]) (h : clear.toNat ≤ 1) :
    readCountersBody r s = respond r .done (clear :: s.counters.words)
      (if clear = 1 then { s with counters := Counters.zero } else s) := by
  simp only [readCountersBody, ha, argBool_of_le h, decide_eq_true_eq]

end

/-- Settles O29: by the value of the argument, as R139 has it: neither yes nor no, no, and yes. -/
theorem readCountersCarriesThemAll : Obligations.ReadCountersCarriesThemAll := by
  intro s r rest clear h hk ha
  dsimp only
  rw [h.exec_request (c := .readCounters) rfl hk]
  refine ⟨fun hbig => ?refused, fun hno => ?kept, fun hyes => ?cleared⟩
  case refused => rw [readCountersBody_of_lt (popRequest s) ha hbig, h.respond_popped]
  case kept =>
    have hle : clear.toNat ≤ 1 := hno ▸ by decide
    have hnot : clear ≠ 1 := hno ▸ by decide
    rw [readCountersBody_of_le (popRequest s) ha hle, if_neg hnot, h.respond_popped]
    rfl
  case cleared =>
    have hle : clear.toNat ≤ 1 := hyes ▸ by decide
    rw [readCountersBody_of_le (popRequest s) ha hle, if_pos hyes, h.popped]
    rfl

/-! ## Posting a notice (R131, R132) -/

section
variable (n : Notice) {s : State}

theorem postNotice_of_room (h : s.notices.queue.length < 8) :
    postNotice n s = { s with notices.queue := s.notices.queue ++ [n] } := if_pos h

/-- The two counts saturate separately. -/
theorem postNotice_of_full (h : 8 ≤ s.notices.queue.length) :
    postNotice n s =
      { s with
        notices.droppedBefore := min 255 (s.notices.droppedBefore + 1)
        counters.lostNotices := satAdd s.counters.lostNotices 1 } := if_neg (Nat.not_lt.mpr h)

end

/-- Settles O56: by whether the queue has room; the counters' own rule is that of `satAdd`. -/
theorem noticesJoinOrAreCounted : Obligations.NoticesJoinOrAreCounted := by
  intro n s
  refine ⟨fun hroom => ?joins, fun hfull => ?dropped, satAdd_toNat⟩
  case joins => exact postNotice_of_room n hroom
  case dropped => exact postNotice_of_full n hfull

end Sys2Proof.Machine
end

section
/-! PROOFS. ECHO, READ_STATUS and GET_PARAMETER, and the class of a request that arrives (08): O13, O14, O16, O32. -/

namespace Sys2Proof.Machine

/-! ## ECHO and READ_STATUS (R157, R158) -/

section
variable {r : Request} (s : State)

theorem echoBody_of_one {value : Word} (ha : r.args = [value]) : echoBody r s = respond r .done [value] s := by
  simp only [echoBody, ha]

theorem readStatusBody_of_nil (ha : r.args = []) : readStatusBody r s = respond r .done (statusReport s) s := by
  simp only [readStatusBody, ha]

end

/-- Settles O13: the argument goes into the answer as it came. -/
theorem echoReturnsItsArgument : Obligations.EchoReturnsItsArgument := by
  intro s r rest value h hk ha
  rw [h.exec_request (c := .echo) rfl hk, echoBody_of_one (popRequest s) ha, h.respond_popped]

/-- Settles O14: the report is taken when the request has left the queue, so it counts the requests behind it. -/
theorem statusReportCarriesTheState : Obligations.StatusReportCarriesTheState := by
  intro s r rest h hk ha
  rw [h.exec_request (c := .readStatus) rfl hk, readStatusBody_of_nil (popRequest s) ha, h.respond_popped, h.popped]
  rfl

/-! ## GET_PARAMETER (R156) -/

/-- The parameters in the order of their codes, which begin at 1 (R179). -/
def Param.table : List Param :=
  [ .sweepPeriod, .startMode, .startEdge, .burstSweeps, .sweepLimit, .programLength, .entrySpacing, .inflightLimit,
    .replyTimeout, .pretriggerSweeps, .posttriggerSweeps, .earlyTrigger, .captureQuota, .quotaRepeat, .qualifyWindow,
    .trigoutMode ]

/-- A code stands for the parameter at its place in the table. -/
theorem argParam_eq_table {code : Word} (h : 1 ≤ code.toNat) : argParam code = Param.table[code.toNat - 1]? := by
  by_cases hle : code.toNat ≤ 16
  · unfold argParam
    generalize code.toNat = n at h hle
    interval_cases n <;> rfl
  · have hbeyond : Param.table.length ≤ code.toNat - 1 := by
      change 16 ≤ code.toNat - 1
      omega
    rw [argParam_eq_none (.inr (Nat.lt_of_not_le hle)), List.getElem?_eq_none hbeyond]

section
variable {r : Request} (s : State) {code : Word}

theorem getParameterBody_of_none (ha : r.args = [code]) (hp : argParam code = none) :
    getParameterBody r s = respond r .badValue [] s := by
  simp only [getParameterBody, ha, hp]

theorem getParameterBody_of_some {p : Param} (ha : r.args = [code]) (hp : argParam code = some p) :
    getParameterBody r s = respond r .done [code, word (s.params.get p)] s := by
  simp only [getParameterBody, ha, hp]

end

/-- Settles O16: the values the statement lists are those of the parameters of the table, each at its code's place. -/
theorem getParameterReturnsTheValueInForce : Obligations.GetParameterReturnsTheValueInForce := by
  intro s r rest code h hk ha
  rw [h.exec_request (c := .getParameter) rfl hk]
  refine ⟨fun hno => ?refused, fun value hcode hvalue => ?read⟩
  case refused => rw [getParameterBody_of_none (popRequest s) ha (argParam_eq_none hno), h.respond_popped]
  case read =>
    have hplace : (Param.table.map s.params.get)[code.toNat - 1]? = some value := hvalue
    rw [List.getElem?_map, ← argParam_eq_table hcode] at hplace
    obtain ⟨p, hp, rfl⟩ := Option.map_eq_some_iff.mp hplace
    rw [getParameterBody_of_some (popRequest s) ha hp, h.respond_popped]
    rfl

/-! ## The arrival of a request (R143 to R147) -/

section
variable (r : Request) (s : State)

/-- The total of R144 is the sum the statements write out. -/
theorem refuseArrival_eq_turnedAway (status : Status) : refuseArrival r status s = s.turnedAway r status := rfl

/-- A request offered for execution joins the queue while there is room, and is BUSY otherwise (R144, R145). -/
theorem acceptOwn_eq :
    acceptOwn r s =
      if s.manager.requests.length < 8 ∧
          s.manager.requests.length + s.manager.deferred.count + s.manager.responses.length < 12 then
        { s with manager.requests := s.manager.requests ++ [r] }
      else s.turnedAway r .busy := rfl

end

section
variable {r : Request} {s : State} {next : State → State}

theorem forwardArrival_of_not_up (hlink : s.intake.link.state ≠ .up) :
    forwardArrival r next s = s.turnedAway r .linkDown := by
  rw [forwardArrival, if_pos hlink, refuseArrival_eq_turnedAway]

theorem forwardArrival_of_full (hlink : s.intake.link.state = .up) (hfull : 4 ≤ s.intake.forward.length) :
    forwardArrival r next s = s.turnedAway r .forwardFull := by
  rw [forwardArrival, if_neg (not_not.mpr hlink), if_pos hfull, refuseArrival_eq_turnedAway]

theorem forwardArrival_of_room (hlink : s.intake.link.state = .up) (hroom : s.intake.forward.length < 4) :
    forwardArrival r next s = next { s with intake.forward := s.intake.forward ++ [r] } := by
  rw [forwardArrival, if_neg (not_not.mpr hlink), if_neg (Nat.not_le.mpr hroom)]

theorem classifyArrival_of_own (hdest : r.destination = s.manager.node) : classifyArrival r s = acceptOwn r s :=
  if_pos hdest

/-- A request for elsewhere is forwarded, and after that a broadcast is offered here too (R143, R147). -/
theorem classifyArrival_of_elsewhere (hdest : r.destination ≠ s.manager.node) :
    classifyArrival r s = forwardArrival r (if r.destination = 15 then acceptOwn r else id) s := by
  rw [classifyArrival, if_neg hdest]
  split <;> rfl

/-- On an UP delivery link a good reception clears the bad run and touches nothing else (R163). -/
theorem goodReception_delivery_of_up (hup : s.deliveryPort.link.state = .up) :
    goodReception .delivery s = { s with deliveryPort.link.badRun := 0 } := by
  simp [goodReception, setLink, State.link, Link.good, setDeliveryLink, hup]

/-- A request whose length is good is handed on by an UP delivery link (R163, R165, R167). -/
theorem receiveRequest_of_up (hlen : r.args.length ≤ 9) (hup : s.deliveryPort.link.state = .up) :
    receiveRequest r s = classifyArrival r { s with deliveryPort.link.badRun := 0 } := by
  have hlink : (s.link .delivery).state = .up := hup
  rw [receiveRequest, if_pos hlen, receiveGoodFrame, if_pos hlink, goodReception_delivery_of_up hup]

end

/-- Settles O32: the class of the request first, and for one that is not own the intake link and then the room of the
forward buffer. -/
theorem requestsAreClassedByDestination : Obligations.RequestsAreClassedByDestination := by
  intro s r hlen hup b own sent
  have heffect : effect (.requestArrival r) s = classifyArrival r b := receiveRequest_of_up hlen hup
  rw [exec_effect, heffect]
  refine ⟨fun hown => ?own, fun helse hdown => ?linkDown, fun helse hlink hfull => ?forwardFull,
    fun helse hlink hroom => ?forwarded⟩
  case own => rw [classifyArrival_of_own (s := b) hown, acceptOwn_eq]
  case linkDown => rw [classifyArrival_of_elsewhere (s := b) helse, forwardArrival_of_not_up (s := b) hdown]
  case forwardFull => rw [classifyArrival_of_elsewhere (s := b) helse, forwardArrival_of_full (s := b) hlink hfull]
  case forwarded =>
    rw [classifyArrival_of_elsewhere (s := b) helse, forwardArrival_of_room (s := b) hlink hroom]
    by_cases hbroadcast : r.destination = 15
    · rw [if_pos hbroadcast, if_pos hbroadcast, acceptOwn_eq]
    · rw [if_neg hbroadcast, if_neg hbroadcast]
      rfl

end Sys2Proof.Machine
end

section
/-! PROOFS. The two arbiters of the outbound lanes (09): O58. -/

namespace Sys2Proof.Machine

/-! ## The upstream arbiter (R171) -/

section
variable {s : State} {r : Request} {forward : List Request} {c : ConvertFrame} {converts : List ConvertFrame}

theorem chooseUp_of_forward (hf : s.intake.forward = r :: forward) (h : s.tracker.converts = [] ∨ s.intake.turn = 4) :
    chooseUp s = startUp (.forward r) 0 { s with intake.forward := forward } := by
  cases hc : s.tracker.converts with
  | nil => simp only [chooseUp, hf, hc]
  | cons c converts =>
    have hturn : s.intake.turn = 4 := h.resolve_left (hc ▸ List.cons_ne_nil c converts)
    simp only [chooseUp, hf, hc, if_pos hturn]

/-- A CONVERT granted while a forward frame waits is counted. -/
theorem chooseUp_of_convert_waited_for (hc : s.tracker.converts = c :: converts) (hf : s.intake.forward ≠ [])
    (hturn : s.intake.turn ≠ 4) :
    chooseUp s = startUp (.convert c) (s.intake.turn + 1) { s with tracker.converts := converts } := by
  obtain ⟨r, forward, hf⟩ := List.exists_cons_of_ne_nil hf
  simp only [chooseUp, hf, hc, if_neg hturn]

theorem chooseUp_of_convert_alone (hc : s.tracker.converts = c :: converts) (hf : s.intake.forward = []) :
    chooseUp s = startUp (.convert c) 0 { s with tracker.converts := converts } := by
  simp only [chooseUp, hf, hc]

theorem chooseUp_of_nothing (hc : s.tracker.converts = []) (hf : s.intake.forward = []) : chooseUp s = s := by
  simp only [chooseUp, hf, hc]

/-- With no forward frame waiting, a choice leaves the count at 0. -/
theorem chooseUp_turn_of_no_forward (hf : s.intake.forward = []) (hturn : s.intake.turn = 0) :
    (chooseUp s).intake.turn = 0 := by
  cases hc : s.tracker.converts with
  | nil => rw [chooseUp_of_nothing hc hf, hturn]
  | cons c converts => rw [chooseUp_of_convert_alone hc hf, startUp]

theorem arbitrateUp_turn_of_no_forward (hf : s.intake.forward = []) : (arbitrateUp s).intake.turn = 0 := by
  have hempty : s.intake.forward.isEmpty = true := List.isEmpty_iff.mpr hf
  simp only [arbitrateUp, if_pos hempty]
  split
  · exact chooseUp_turn_of_no_forward hf rfl
  · rfl

end

/-! ## The downstream arbiter (R172) -/

section
variable {s : State}

theorem grantRecord_of_some {f : RecordFrame} (h : s.delivery.nextFrame = some f) :
    grantRecord s = startDown (.record f) 0 s := by
  simp only [grantRecord, h]

theorem chooseDown_of_due (h : s.offersRecord = true ∧ s.deliveryPort.turn = 3) : chooseDown s = grantRecord s := if_pos h

section
variable (hdue : ¬ (s.offersRecord = true ∧ s.deliveryPort.turn = 3))
include hdue

theorem chooseDown_of_response {r : Response} {responses : List Response} (hr : s.manager.responses = r :: responses) :
    chooseDown s = startDown (.response r) s.turnAfterOther { s with manager.responses := responses } := by
  simp only [chooseDown, if_neg hdue, hr]

variable (hr : s.manager.responses = [])
include hr

theorem chooseDown_of_passback {f : RawFrame} {passback : List RawFrame} (hp : s.deliveryPort.passback = f :: passback) :
    chooseDown s = startDown (.passback f) s.turnAfterOther { s with deliveryPort.passback := passback } := by
  simp only [chooseDown, if_neg hdue, hr, hp]

variable (hp : s.deliveryPort.passback = [])
include hp

theorem chooseDown_of_notice {n : Notice} {notices : List Notice} (hn : s.notices.queue = n :: notices) :
    chooseDown s = startDown (.notice n s.notices.droppedBefore) s.turnAfterOther
      { s with notices := { queue := notices, droppedBefore := 0 } } := by
  simp only [chooseDown, if_neg hdue, hr, hp, hn]

/-- The record source is the last in the order of the sources. -/
theorem chooseDown_of_no_other (hn : s.notices.queue = []) :
    chooseDown s = if s.offersRecord then grantRecord s else s := by
  simp only [chooseDown, if_neg hdue, hr, hp, hn]

end

/-- The record frame is granted in its turn, and without it when no other source is offering. -/
theorem chooseDown_of_record {f : RecordFrame} (hf : s.delivery.nextFrame = some f)
    (h : (s.offersRecord = true ∧ s.deliveryPort.turn = 3) ∨ s.offersRecord = true ∧ s.manager.responses = [] ∧
      s.deliveryPort.passback = [] ∧ s.notices.queue = []) :
    chooseDown s = startDown (.record f) 0 s := by
  rw [← grantRecord_of_some hf]
  by_cases hdue : s.offersRecord = true ∧ s.deliveryPort.turn = 3
  · exact chooseDown_of_due hdue
  · obtain ⟨hoffer, hr, hp, hn⟩ := h.resolve_left hdue
    rw [chooseDown_of_no_other hdue hr hp hn, if_pos hoffer]

/-- With no record frame offered, a choice leaves the count as it is. -/
theorem chooseDown_turn_of_no_offer (h : s.offersRecord = false) :
    (chooseDown s).deliveryPort.turn = s.deliveryPort.turn := by
  have hdue : ¬ (s.offersRecord = true ∧ s.deliveryPort.turn = 3) := fun ⟨hoffer, _⟩ => by simp [h] at hoffer
  have hturn : s.turnAfterOther = s.deliveryPort.turn := by simp only [State.turnAfterOther, h, Bool.false_eq_true, if_false]
  cases hr : s.manager.responses with
  | cons r responses => rw [chooseDown_of_response hdue hr, startDown, hturn]
  | nil =>
    cases hp : s.deliveryPort.passback with
    | cons f passback => rw [chooseDown_of_passback hdue hr hp, startDown, hturn]
    | nil =>
      cases hn : s.notices.queue with
      | cons n notices => rw [chooseDown_of_notice hdue hr hp hn, startDown, hturn]
      | nil => rw [chooseDown_of_no_other hdue hr hp hn, h, if_neg Bool.false_ne_true]

theorem arbitrateDown_turn_of_no_offer (h : s.offersRecord = false) : (arbitrateDown s).deliveryPort.turn = 0 := by
  simp only [arbitrateDown, h, Bool.false_eq_true, if_false]
  split
  · exact chooseDown_turn_of_no_offer (s := { s with deliveryPort.turn := 0 }) h
  · rfl

end

/-- Settles O58: each row of the two tables is a lemma on the arbiter's choice; the resets to 0 hold whether or not the lane
can start a frame. -/
theorem arbitersGrantByTheirTables : Obligations.ArbitersGrantByTheirTables := by
  intro s turn due
  refine ⟨fun r forward => chooseUp_of_forward, fun c converts => chooseUp_of_convert_waited_for,
    fun c converts => chooseUp_of_convert_alone, ⟨fun f => chooseDown_of_record, ?response, ?passback, ?notice⟩,
    arbitrateUp_turn_of_no_forward, arbitrateDown_turn_of_no_offer⟩
  case response => exact fun r responses hdue hr => chooseDown_of_response hdue hr
  case passback => exact fun f passback hdue hr hp => chooseDown_of_passback hdue hr hp
  case notice => exact fun n notices hdue hr hp hn => chooseDown_of_notice hdue hr hp hn

end Sys2Proof.Machine
end

section
/-! PROOFS. The cells of a record, the bytes of the frames sent, and the codes they carry (09): O60. -/

namespace Sys2Proof.Machine

/-! ## A field in a cell (R178) -/

/-- A field of a cell at its place: its value from bit `place` up, and 0 elsewhere. -/
def fieldAt {n : Nat} (place : Nat) (v : BitVec n) : Word := v.setWidth 32 <<< place

section
variable {n place : Nat} (v : BitVec n)

theorem fieldAt_getLsbD (i : Nat) :
    (fieldAt place v).getLsbD i = (decide (place ≤ i ∧ i < 32) && v.getLsbD (i - place)) := by
  rw [fieldAt, BitVec.getLsbD_shiftLeft, BitVec.getLsbD_setWidth, ← Bool.and_assoc]
  congr 1
  rw [Bool.eq_iff_iff]
  simp only [Bool.and_eq_true, Bool.not_eq_true', decide_eq_true_eq, decide_eq_false_iff_not]
  omega

@[simp] theorem fieldAt_getLsbD_of_outside {i : Nat} (h : i < place ∨ place + n ≤ i) :
    (fieldAt place v).getLsbD i = false := by
  rw [fieldAt_getLsbD]
  rcases h with hbelow | habove
  · simp [Nat.not_le.mpr hbelow]
  · rw [BitVec.getLsbD_of_ge v (i - place) (by omega), Bool.and_false]

/-- A field that fits the cell is read back from its bits. -/
@[simp] theorem extractLsb'_fieldAt_same (h : place + n ≤ 32) : (fieldAt place v).extractLsb' place n = v := by
  apply BitVec.eq_of_getLsbD_eq
  intro i hi
  have hin : place ≤ place + i ∧ place + i < 32 := by omega
  rw [BitVec.getLsbD_extractLsb', fieldAt_getLsbD, decide_eq_true hi, decide_eq_true hin, Nat.add_sub_cancel_left,
    Bool.true_and, Bool.true_and]

/-- No other field's bits hold any of it. -/
@[simp] theorem extractLsb'_fieldAt_of_disjoint {start len : Nat} (h : start + len ≤ place ∨ place + n ≤ start) :
    (fieldAt place v).extractLsb' start len = 0 := by
  apply BitVec.eq_of_getLsbD_eq
  intro i hi
  rw [BitVec.getLsbD_extractLsb', fieldAt_getLsbD_of_outside v (by omega), Bool.and_false]
  simp

end

theorem setWidth_shiftLeft_eq_fieldAt {n : Nat} (place : Nat) (v : BitVec n) :
    v.setWidth 32 <<< place = fieldAt place v := rfl

theorem setWidth_eq_fieldAt {n : Nat} (v : BitVec n) : v.setWidth 32 = fieldAt 0 v := (BitVec.shiftLeft_zero _).symm

/-- A number that n bits hold, put at its place in a cell, is the field of those n bits. -/
theorem word_shiftLeft_eq_fieldAt {m n : Nat} (place : Nat) (hn : n ≤ 32) (h : m < 2 ^ n) :
    word m <<< place = fieldAt place (BitVec.ofNat n m) := by
  rw [fieldAt, BitVec.setWidth_ofNat_of_le_of_lt hn h]

theorem word_eq_fieldAt {m n : Nat} (hn : n ≤ 32) (h : m < 2 ^ n) : word m = fieldAt 0 (BitVec.ofNat n m) := by
  rw [← word_shiftLeft_eq_fieldAt 0 hn h, BitVec.shiftLeft_zero]

theorem bitAt_false (place : Nat) : bitAt place false = 0#32 := rfl

/-- A number is read back from a field that has room for it. -/
theorem toNat_of_eq_ofNat {m n : Nat} {v : BitVec n} (hv : v = BitVec.ofNat n m) (h : m < 2 ^ n) : v.toNat = m := by
  rw [hv, BitVec.toNat_ofNat, Nat.mod_eq_of_lt h]

/-- A single bit is a field of one bit. -/
theorem bitAt_eq_fieldAt (place : Nat) (b : Bool) : bitAt place b = fieldAt place (BitVec.ofBool b) := by
  cases b with
  | false => simp [bitAt, fieldAt]
  | true => rfl

@[simp] theorem bitAt_getLsbD_same {place : Nat} (hp : place < 32) (b : Bool) : (bitAt place b).getLsbD place = b := by
  simp [bitAt_getLsbD hp]

@[simp] theorem bitAt_getLsbD_of_ne {place i : Nat} (hp : place < 32) (h : i ≠ place) (b : Bool) :
    (bitAt place b).getLsbD i = false := by
  simp [bitAt_getLsbD hp, h]

@[simp] theorem extractLsb'_bitAt {place start len : Nat} (b : Bool) (h : start + len ≤ place ∨ place + 1 ≤ start) :
    (bitAt place b).extractLsb' start len = 0 := by
  rw [bitAt_eq_fieldAt, extractLsb'_fieldAt_of_disjoint _ h]

/-! ## Sample cells, block headers and record headers (R178) -/

theorem Reason.code_le (x : Reason) : x.code ≤ 4 := by cases x <;> decide

/-- The low half of a sample cell: the value, or the reason's code. -/
def Content.low : Content → BitVec 16
  | .value v _ => v
  | .missing reason => BitVec.ofNat 16 reason.code

/-- The content is MISSING (bit 30 of the cell). -/
def Content.isMissing : Content → Bool
  | .value _ _ => false
  | .missing _ => true

/-- The content is a value out of range (bit 31 of the cell). -/
def Content.isOverRange : Content → Bool
  | .value _ overRange => overRange
  | .missing _ => false

theorem Content.isMissing_iff (x : Content) : x.isMissing = true ↔ ∃ reason, x = .missing reason := by
  cases x <;> simp [Content.isMissing]

theorem Content.isOverRange_iff (x : Content) : x.isOverRange = true ↔ ∃ v, x = .value v true := by
  cases x <;> simp [Content.isOverRange]

/-- A sample cell field by field. -/
theorem Sample.cell_eq {x : Sample} (h : x.index ≤ 127) :
    x.cell = fieldAt 0 x.content.low ||| bitAt 30 x.content.isMissing ||| bitAt 31 x.content.isOverRange |||
      fieldAt 16 (BitVec.ofNat 7 x.index) ||| fieldAt 23 x.markers ||| fieldAt 26 x.setting := by
  have hindex : word x.index <<< 16 = fieldAt 16 (BitVec.ofNat 7 x.index) :=
    word_shiftLeft_eq_fieldAt 16 (by decide) (Nat.lt_succ_of_le h)
  simp only [Sample.cell, hindex, setWidth_shiftLeft_eq_fieldAt]
  cases x.content with
  | value v overRange =>
    simp only [Content.low, Content.isMissing, Content.isOverRange, setWidth_eq_fieldAt, bitAt_false, BitVec.or_zero]
  | missing reason =>
    have hcode : word reason.code = fieldAt 0 (BitVec.ofNat 16 reason.code) :=
      word_eq_fieldAt (by decide) (Nat.lt_of_le_of_lt reason.code_le (by decide))
    simp only [Content.low, Content.isMissing, Content.isOverRange, hcode, bitAt_false, BitVec.or_zero]

theorem Sample.cell_fields {x : Sample} (h : x.index ≤ 127) :
    x.cell.extractLsb' 0 16 = x.content.low ∧ x.cell.extractLsb' 16 7 = BitVec.ofNat 7 x.index ∧
    x.cell.extractLsb' 23 3 = x.markers ∧ x.cell.extractLsb' 26 4 = x.setting ∧
    x.cell.getLsbD 30 = x.content.isMissing ∧ x.cell.getLsbD 31 = x.content.isOverRange := by
  rw [Sample.cell_eq h]
  simp [-BitVec.getLsbD_eq_getElem, BitVec.extractLsb'_or]

/-- The second header cell of a block. -/
def Block.secondCell (b : Block) : Word := fieldAt 0 b.startTime ||| bitAt 24 b.afterGap ||| bitAt 25 b.triggerSweep

/-- The cells of a block after its two header cells. -/
def Block.sampleCells (b : Block) : List Word :=
  b.cells.mapIdx (fun i c => match c with
    | some x => x.cell
    | none => Config.unwrittenCell i)

theorem Block.words_eq (b : Block) : b.words = b.number :: b.secondCell :: b.sampleCells := by
  rw [Block.words, setWidth_eq_fieldAt]
  rfl

theorem Block.secondCell_fields (b : Block) :
    b.secondCell.extractLsb' 0 24 = b.startTime ∧ b.secondCell.getLsbD 24 = b.afterGap ∧
    b.secondCell.getLsbD 25 = b.triggerSweep := by
  simp [-BitVec.getLsbD_eq_getElem, Block.secondCell, BitVec.extractLsb'_or]

theorem Block.sampleCells_length (b : Block) : b.sampleCells.length = b.cells.length := List.length_mapIdx

theorem Block.sampleCells_getElem? {b : Block} {i : Nat} {x : Sample} (h : b.cells[i]? = some (some x)) :
    b.sampleCells[i]? = some x.cell := by
  rw [Block.sampleCells, List.getElem?_mapIdx, h]
  rfl

/-- The first cell of a record header, its numbers as many bits as they have there. -/
def RecordHeader.firstCell (h : RecordHeader) : Word :=
  fieldAt 0 h.id ||| fieldAt 16 (BitVec.ofNat 4 h.cause.code) ||| bitAt 20 h.shortHead ||| bitAt 21 h.headLost |||
    bitAt 22 h.truncated ||| bitAt 23 h.cut ||| fieldAt 24 (BitVec.ofNat 8 h.s)

/-- The third cell of a record header. -/
def RecordHeader.thirdCell (h : RecordHeader) : Word :=
  fieldAt 0 (BitVec.ofNat 8 h.preBlocks) ||| fieldAt 8 (BitVec.ofNat 16 h.postBlocks)

/-- The fourth cell of a record header. -/
def RecordHeader.fourthCell (h : RecordHeader) : Word := fieldAt 0 (BitVec.ofNat 14 h.total)

section
variable {h : RecordHeader}

theorem RecordHeader.words_eq (hcause : h.cause.code ≤ 8) (hs : h.s ≤ 128) (hpre : h.preBlocks ≤ 255)
    (hpost : h.postBlocks ≤ 65535) (htotal : h.total ≤ 8192) :
    h.words = [h.firstCell, h.triggerSweep, h.thirdCell, h.fourthCell] := by
  have hfirst : word h.cause.code <<< 16 = fieldAt 16 (BitVec.ofNat 4 h.cause.code) ∧
      word h.s <<< 24 = fieldAt 24 (BitVec.ofNat 8 h.s) :=
    ⟨word_shiftLeft_eq_fieldAt 16 (by decide) (by omega), word_shiftLeft_eq_fieldAt 24 (by decide) (by omega)⟩
  have hthird : word h.preBlocks = fieldAt 0 (BitVec.ofNat 8 h.preBlocks) ∧
      word h.postBlocks <<< 8 = fieldAt 8 (BitVec.ofNat 16 h.postBlocks) :=
    ⟨word_eq_fieldAt (by decide) (by omega), word_shiftLeft_eq_fieldAt 8 (by decide) (by omega)⟩
  have hfourth : word h.total = fieldAt 0 (BitVec.ofNat 14 h.total) := word_eq_fieldAt (by decide) (by omega)
  simp only [RecordHeader.words, RecordHeader.firstCell, RecordHeader.thirdCell, RecordHeader.fourthCell,
    setWidth_eq_fieldAt, hfirst, hthird, hfourth]

variable (h)

theorem RecordHeader.firstCell_fields :
    h.firstCell.extractLsb' 0 16 = h.id ∧ h.firstCell.extractLsb' 16 4 = BitVec.ofNat 4 h.cause.code ∧
    h.firstCell.getLsbD 20 = h.shortHead ∧ h.firstCell.getLsbD 21 = h.headLost ∧
    h.firstCell.getLsbD 22 = h.truncated ∧ h.firstCell.getLsbD 23 = h.cut ∧
    h.firstCell.extractLsb' 24 8 = BitVec.ofNat 8 h.s := by
  simp [-BitVec.getLsbD_eq_getElem, RecordHeader.firstCell, BitVec.extractLsb'_or]

theorem RecordHeader.thirdCell_fields :
    h.thirdCell.extractLsb' 0 8 = BitVec.ofNat 8 h.preBlocks ∧
    h.thirdCell.extractLsb' 8 16 = BitVec.ofNat 16 h.postBlocks := by
  simp [RecordHeader.thirdCell, BitVec.extractLsb'_or]

theorem RecordHeader.fourthCell_field : h.fourthCell.extractLsb' 0 14 = BitVec.ofNat 14 h.total :=
  extractLsb'_fieldAt_same _ (by decide)

end

/-! ## The check (R164) -/

/-- A bit step reduces when the bit that leaves is a one. -/
theorem checkBit_eq (r : BitVec 16) : checkBit r = if r.getLsbD 15 = true then (r <<< 1) ^^^ 0x1021 else r <<< 1 := by
  rw [checkBit, BitVec.msb_eq_getLsbD_last]
  rfl

/-- The check of a list one byte longer takes that byte in last. -/
theorem checkOf_concat (bytes : List Byte) (b : Byte) : checkOf (bytes ++ [b]) = checkByte (checkOf bytes) b :=
  List.foldl_concat checkByte _ b bytes

/-! ## Frames (R177) -/

theorem WindowId.code_byte (w : WindowId) : BitVec.ofNat 8 w.code = if w = .a then 0 else 1 := by cases w <;> rfl

theorem RecordFrame.flagByte_fields (f : RecordFrame) :
    f.flagByte.getLsbD 0 = f.first ∧ f.flagByte.getLsbD 1 = f.last ∧ f.flagByte.getLsbD 2 = f.abandoned ∧
    f.flagByte.extractLsb' 3 5 = 0 := by
  rw [RecordFrame.flagByte]
  generalize f.first = first, f.last = last, f.abandoned = abandoned
  revert first last abandoned
  decide

/-- A RECORD frame's ten bytes of fields stand before its cells. -/
theorem RecordFrame.raw_eq (node : BitVec 4) (f : RecordFrame) :
    f.raw node = buildFrame 6 (15#4 ++ node)
      ([if f.window = .a then 0 else 1, f.windowTag, f.flagByte, BitVec.ofNat 8 f.payload.length] ++
        bytes16 (BitVec.ofNat 16 f.windowOffset) ++ bytes16 f.recordId ++ bytes16 (BitVec.ofNat 16 f.recordOffset) ++
        f.payload.flatMap bytes32) := by
  rw [RecordFrame.raw, WindowId.code_byte]
  rfl

/-! ## The flag words of notices (R177) -/

/-- A flag of a notice as the number its bit stands for. -/
def flagValue (b : Bool) (v : Word) : Word := if b then v else 0

theorem two_flags_eq (a b : Bool) : bitAt 0 a ||| bitAt 1 b = flagValue a 1 + flagValue b 2 := by
  revert a b
  decide

theorem four_flags_eq (a b c d : Bool) :
    bitAt 0 a ||| bitAt 1 b ||| bitAt 2 c ||| bitAt 3 d =
      flagValue a 1 + flagValue b 2 + flagValue c 4 + flagValue d 8 := by
  revert a b c d
  decide

theorem WindowId.code_word (w : WindowId) : word w.code = if w = .a then 0 else 1 := by cases w <;> rfl

/-! ## The statement -/

/-- Settles O60: the cells through their fields, the check byte by byte, the frames by their layouts, and the codes of the
tables as the model writes them. -/
theorem cellsHoldTheirFields : Obligations.CellsHoldTheirFields := by
  refine ⟨fun x hindex => ?sample, fun b => ?block, fun h hcause hs hpre hpost htotal => ?record,
    fun kind node payload => ⟨rfl, rfl⟩, ⟨rfl, fun bytes b => ?check⟩, fun node => ?frames, rfl, fun n q r => ?codes,
    fun cause halt trigger id number total quota filled window tag a b c d => ?notices⟩
  case sample =>
    obtain ⟨hlow, hplace, hmarkers, hsetting, hmissing, hover⟩ := Sample.cell_fields hindex
    refine ⟨hlow.trans ?low, toNat_of_eq_ofNat hplace (Nat.lt_succ_of_le hindex), hmarkers, hsetting,
      hmissing ▸ x.content.isMissing_iff, hover ▸ x.content.isOverRange_iff⟩
    case low => cases x.content <;> rfl
  case block =>
    obtain ⟨hstart, hgap, htrigger⟩ := b.secondCell_fields
    exact ⟨b.secondCell, b.sampleCells, b.words_eq, hstart, hgap, htrigger, b.sampleCells_length,
      fun i x => Block.sampleCells_getElem?⟩
  case record =>
    obtain ⟨hid, hcode, hshort, hlost, htruncated, hcut, hsize⟩ := h.firstCell_fields
    obtain ⟨hbefore, hafter⟩ := h.thirdCell_fields
    exact ⟨h.firstCell, h.thirdCell, h.fourthCell, RecordHeader.words_eq hcause hs hpre hpost htotal, hid,
      toNat_of_eq_ofNat hcode (by omega), hshort, hlost, htruncated, hcut, toNat_of_eq_ofNat hsize (by omega),
      toNat_of_eq_ofNat hbefore (by omega), toNat_of_eq_ofNat hafter (by omega),
      toNat_of_eq_ofNat h.fourthCell_field (by omega)⟩
  case check =>
    intro bit
    have hbit : checkBit = bit := funext checkBit_eq
    rw [checkOf_concat, checkByte, hbit]
  case frames =>
    refine ⟨fun f => rfl, fun r => rfl, fun n dropped => rfl, fun f => ?recordFrame⟩
    obtain ⟨hfirst, hlast, habandoned, hrest⟩ := f.flagByte_fields
    exact ⟨f.flagByte, hfirst, hlast, habandoned, hrest, f.raw_eq node⟩
  case codes => and_intros <;> rfl
  case notices =>
    intro flag n1 n2 n3 n4 n5 n6
    refine ⟨rfl, ?runEnded, ?triggered, ?recordClosed, ?windowDone, ?halted, ?linkChanged⟩
    case runEnded => cases cause <;> rfl
    case triggered =>
      simp only [n2, Notice.words, two_flags_eq]
      cases trigger <;> rfl
    case recordClosed =>
      simp only [n3, Notice.words, four_flags_eq]
      rfl
    case windowDone =>
      simp only [n4, Notice.words, WindowId.code_word]
      rfl
    case halted => cases halt <;> rfl
    case linkChanged => cases a <;> rfl

end Sys2Proof.Machine
end

section
/-! PROOFS. What every command keeps, and the parameters' ranges (00, 08): O1, O2, O5, O6, O43. -/

namespace Sys2Proof.Machine

/-! ## Steps -/

/-- Settles O1. -/
theorem stepRunsTheFrontCommand : Obligations.StepRunsTheFrontCommand := by
  unfold Obligations.StepRunsTheFrontCommand
  intro c rest s h
  rw [step, h]

/-! ## What no command touches -/

/-- What neither the departure of the front request nor the body changes, the execution of the front request keeps. -/
theorem executeFront_frame {α : Type} (p : State → α) {kind : Byte} {body : Request → State → State} {s : State}
    (hpop : p (popRequest s) = p s) (hbody : ∀ r u, p (body r u) = p u) : p (executeFront kind body s) = p s :=
  executeFront_of (P := fun t => p t = p s) rfl (fun r _ => (hbody r _).trans hpop)

/-- A command's effects leave the commands that wait, the count of choices, and, but for a hard reset, the clock. -/
theorem effect_keeps_queue_and_clock (c : Instr) (s : State) :
    (effect c s).pending = s.pending ∧ (effect c s).choices = s.choices ∧
    ((∀ straps level, c ≠ .hardReset straps level) → (effect c s).clock = s.clock) := by
  cases c with
  | hardReset straps level => exact ⟨rfl, rfl, fun h => absurd rfl (h straps level)⟩
  | echo | readStatus | setParameter | getParameter | writeProgramEntry | readProgramEntry | startRun | stopRun
  | writeCondition | readCondition | forceTrigger | arm | disarm | clearHalt | openWindow | closeWindow | discardRecord
  | readCounters | resetEngine =>
    exact ⟨executeFront_frame (·.pending) (by simp) (by simp), executeFront_frame (·.choices) (by simp) (by simp),
      fun _ => executeFront_frame (·.clock) (by simp) (by simp)⟩
  | _ => simp [effect]

/-- Settles O2. -/
theorem everyCommandAnswersNext : Obligations.EveryCommandAnswersNext := by
  unfold Obligations.EveryCommandAnswersNext
  intro c s
  obtain ⟨hpending, hchoices, hclock⟩ := effect_keeps_queue_and_clock c s
  refine ⟨settle (effect c s), exec_effect c s, ?_, ?_, fun h => ?_⟩
  · simpa using hpending
  · simpa using hchoices
  · simpa using hclock h

/-- A command's effects leave the parameters, but those of SET_PARAMETER and of a hard reset. -/
theorem effect_params {c : Instr} (hset : c ≠ .setParameter) (hreset : ∀ straps level, c ≠ .hardReset straps level)
    (s : State) : (effect c s).params = s.params := by
  cases c with
  | setParameter => exact absurd rfl hset
  | hardReset straps level => exact absurd rfl (hreset straps level)
  | echo | readStatus | getParameter | writeProgramEntry | readProgramEntry | startRun | stopRun
  | writeCondition | readCondition | forceTrigger | arm | disarm | clearHalt | openWindow | closeWindow | discardRecord
  | readCounters | resetEngine => exact executeFront_frame (·.params) (by simp) (by simp)
  | _ => simp [effect]

/-! ## The parameters (R155) -/

/-- The parameter invariant speaks of the parameters alone. -/
theorem ParamsInv.of_params {s t : State} (h : ParamsInv s) (hparams : t.params = s.params) : ParamsInv t := by
  obtain ⟨h1, h2, h3, h4, h5, h6, h7, h8, h9, h10, h11⟩ := h
  rw [← hparams] at h1 h2 h3 h4 h5 h6 h7 h8 h9 h10 h11
  exact ⟨h1, h2, h3, h4, h5, h6, h7, h8, h9, h10, h11⟩

theorem putParams_params (p : Param) (ps : Params) (s : State) : (putParams p ps s).params = ps := by
  cases p with
  | trigoutMode => simp [putParams]
  | _ => rfl

/-- A value that an argument check hands on lies within its bounds and is taken as it is. -/
theorem argIn_map_eq_some {α : Type} {lo hi : Nat} {w : Word} {f : Nat → α} {x : α} :
    (argIn lo hi w).map f = some x ↔ (lo ≤ w.toNat ∧ w.toNat ≤ hi) ∧ f w.toNat = x := by
  simp only [Option.map_eq_some_iff, argIn_eq_some]
  exact ⟨fun ⟨n, ⟨hb, hn⟩, hx⟩ => ⟨hb, hn ▸ hx⟩, fun ⟨hb, hx⟩ => ⟨_, ⟨hb, rfl⟩, hx⟩⟩

/-- A truth value that an argument check hands on is 0 or 1. -/
theorem argBool_map_eq_some {α : Type} {w : Word} {f : Bool → α} {x : α} :
    (argBool w).map f = some x ↔ w.toNat ≤ 1 ∧ f (decide (w = 1)) = x := by
  by_cases hw : w.toNat ≤ 1
  · simp [argBool_of_le hw, hw]
  · simp [argBool_of_lt (Nat.lt_of_not_le hw), hw]

/-- The code of a truth value is the word it came in. -/
theorem toNat_of_le_one {w : Word} (h : w.toNat ≤ 1) : w.toNat = if w = 1 then 1 else 0 := by
  split
  · next hw => simp [hw]
  · next hw =>
    have : w.toNat ≠ 1 := fun h1 => hw (BitVec.eq_of_toNat_eq h1)
    omega

/-- A parameter is written exactly with the values its range admits; then it reads as the value written, and every other
parameter reads as before (R155, R156). -/
theorem Params.set_eq_some {ps ps' : Params} {p : Param} {v : Word} (h : ps.set p v = some ps') :
    p.admits v ∧ ps'.get p = v.toNat ∧ ∀ q, q ≠ p → ps'.get q = ps.get q := by
  cases p with
  | startMode | startEdge | earlyTrigger | quotaRepeat =>
    obtain ⟨hv, rfl⟩ := argBool_map_eq_some.mp h
    refine ⟨⟨Nat.zero_le _, hv⟩, ?_, fun q hq => by cases q <;> trivial⟩
    rw [toNat_of_le_one hv]
    by_cases h1 : v = 1 <;>
      simp only [Params.get, h1, decide_true, decide_false, Bool.false_eq_true, ↓reduceIte, StartMode.code, StartEdge.code]
  | trigoutMode =>
    obtain ⟨hv, rfl⟩ := argIn_map_eq_some.mp h
    refine ⟨hv, ?_, fun q hq => by cases q <;> trivial⟩
    obtain h0 | h1 | h2 : v.toNat = 0 ∨ v.toNat = 1 ∨ v.toNat = 2 := by omega
    all_goals simp [Params.get, TrigoutMode.code, *]
  | _ =>
    obtain ⟨hv, rfl⟩ := argIn_map_eq_some.mp h
    exact ⟨hv, rfl, fun q hq => by cases q <;> trivial⟩

theorem Params.set_of_admits (ps : Params) {p : Param} {v : Word} (h : p.admits v) : ∃ ps', ps.set p v = some ps' := by
  cases p with
  | startMode | startEdge | earlyTrigger | quotaRepeat => exact ⟨_, argBool_map_eq_some.mpr ⟨h.2, rfl⟩⟩
  | _ => exact ⟨_, argIn_map_eq_some.mpr ⟨h, rfl⟩⟩

theorem Params.set_of_not_admits {ps : Params} {p : Param} {v : Word} (h : ¬ p.admits v) : ps.set p v = none :=
  Option.eq_none_iff_forall_ne_some.mpr fun _ hset => h (Params.set_eq_some hset).1

/-- The parameter invariant, parameter by parameter: each reads as a value of its range. -/
theorem paramsInv_iff (s : State) :
    ParamsInv s ↔ ∀ p : Param, p.range.1 ≤ s.params.get p ∧ s.params.get p ≤ p.range.2 := by
  constructor
  · intro ⟨h1, h2, h3, h4, h5, h6, h7, h8, h9, h10, h11⟩ p
    cases p with
    | startMode => cases hm : s.params.startMode <;> simp [Params.get, Param.range, StartMode.code, hm]
    | startEdge => cases hm : s.params.startEdge <;> simp [Params.get, Param.range, StartEdge.code, hm]
    | trigoutMode => cases hm : s.params.trigoutMode <;> simp [Params.get, Param.range, TrigoutMode.code, hm]
    | earlyTrigger | quotaRepeat =>
      simp only [Params.get, Param.range]
      split <;> decide
    | _ =>
      simp only [Params.get, Param.range]
      omega
  · intro h
    exact ⟨h .sweepPeriod, h .burstSweeps, (h .sweepLimit).2, h .programLength, (h .entrySpacing).2, h .inflightLimit,
      h .replyTimeout, (h .pretriggerSweeps).2, h .posttriggerSweeps, h .captureQuota, h .qualifyWindow⟩

/-- A parameter written in its range leaves every parameter in its range. -/
theorem ParamsInv.set {s : State} (h : ParamsInv s) {p : Param} {v : Word} {ps : Params} (hset : s.params.set p v = some ps) :
    ParamsInv { s with params := ps } := by
  obtain ⟨hadmits, hsame, hother⟩ := Params.set_eq_some hset
  refine (paramsInv_iff _).mpr fun q => ?_
  by_cases hq : q = p
  · rw [hq, hsame]
    exact hadmits
  · rw [hother q hq]
    exact (paramsInv_iff s).mp h q

/-- SET_PARAMETER keeps every parameter in its range. -/
theorem paramsInv_setParameterBody (r : Request) {s : State} (h : ParamsInv s) : ParamsInv (setParameterBody r s) := by
  unfold setParameterBody
  split
  · split
    · exact h.of_params rfl
    · split
      · split
        · exact h.of_params rfl
        · next hset => exact (h.set hset).of_params (by simp [putParams_params])
      · exact h.of_params rfl
  · exact h.of_params rfl

theorem paramsInv_afterReset (node : BitVec 4) (level : Bool) : ParamsInv (State.afterReset node level) := by
  constructor <;> simp [State.afterReset, Params.defaults]

/-- Every command keeps every parameter in its range. -/
theorem paramsInv_effect (c : Instr) {s : State} (h : ParamsInv s) : ParamsInv (effect c s) := by
  by_cases hset : c = .setParameter
  · subst hset
    exact executeFront_of h (fun r _ => paramsInv_setParameterBody r (h.of_params (by simp)))
  · by_cases hreset : ∃ straps level, c = .hardReset straps level
    · obtain ⟨straps, level, rfl⟩ := hreset
      exact (paramsInv_afterReset (nodeOfStraps straps) level).of_params rfl
    · exact h.of_params (effect_params hset (fun straps level hc => hreset ⟨straps, level, hc⟩) s)

/-- Settles O6. -/
theorem parametersStayInRange : Obligations.ParametersStayInRange := by
  unfold Obligations.ParametersStayInRange
  intro s t h hs
  exact step_keeps (P := ParamsInv) (fun _ _ h => h.of_params rfl) (fun c _ => paramsInv_effect c)
    (fun _ h => h.of_params (by simp)) (fun _ h => h.of_params (by simp)) s t h hs

/-! ## The state after reset (R25, R47, R70, R86, R112, R129, R137, R138, R162, R176) -/

/-- With both links DOWN and nothing that waits for a turn, the arbiters have nothing to choose. -/
theorem settle_hardResetState (straps : BitVec 4) (level : Bool) (s : State) :
    settle (hardResetState straps level s) = hardResetState straps level s := rfl

/-- Settles O43. -/
theorem hardResetGivesTheResetValues : Obligations.HardResetGivesTheResetValues := by
  unfold Obligations.HardResetGivesTheResetValues
  intro s straps level
  rw [exec_effect, effect, settle_hardResetState]
  rfl

theorem windowInv_reset (current : Bool) : WindowInv Window.reset current := by
  constructor <;> simp [Window.reset]

theorem conditionInv_reset : ConditionInv Condition.reset := by
  constructor <;> simp [Condition.reset, Test.forLine, Source.isLine]

theorem deliveryInv_afterReset (node : BitVec 4) (level : Bool) : DeliveryInv (State.afterReset node level) := by
  refine ⟨windowInv_reset _, windowInv_reset _, ?_, ?_, ?_, ?_, ?_, ?_, ?_⟩ <;>
    simp [State.afterReset, State.frameUnderWay, DeliveryUnit.window, Window.reset]

theorem trackerInv_afterReset (node : BitVec 4) (level : Bool) : TrackerInv (State.afterReset node level) := by
  constructor <;> simp [State.afterReset, UpFrame.convertTags, List.getElem?_replicate]

theorem captureInv_afterReset (node : BitVec 4) (level : Bool) : CaptureInv (State.afterReset node level) := by
  constructor <;> simp [State.afterReset, CaptureState.armed, CaptureController.openCount]

theorem triggerInv_afterReset (node : BitVec 4) (level : Bool) : TriggerInv (State.afterReset node level) := by
  refine ⟨fun c hc => ?_, ?_, ?_, ?_, ?_, ?_, ?_, ?_⟩
  · rw [List.eq_of_mem_replicate hc]
    exact conditionInv_reset
  all_goals simp [State.afterReset, Params.defaults, CaptureState.armed]

/-- The whole invariant holds after reset, block by block, for any node number and any level of SWEEP_START. -/
theorem inv_afterReset (node : BitVec 4) (level : Bool) : Inv (State.afterReset node level) where
  params := paramsInv_afterReset node level
  queues := by
    constructor <;> simp [State.afterReset, ManagementController.total, Deferred.count, ManagementController.held]
  ports := by
    constructor <;> simp [State.afterReset, Link.reset]
    all_goals constructor <;> simp
  run := by constructor <;> simp [State.afterReset]
  tracker := trackerInv_afterReset node level
  delivery := deliveryInv_afterReset node level
  capture := captureInv_afterReset node level
  store := by simp [StoreInv, State.afterReset, CaptureMemory.currentCells, CaptureController.openCells,
    DeliveryUnit.queuedCells]
  records := by constructor <;> simp [State.afterReset]
  tables := by constructor <;> simp [State.afterReset]
  trigger := triggerInv_afterReset node level

/-- Settles O5. -/
theorem invariantHoldsAtReset : Obligations.InvariantHoldsAtReset := by
  unfold Obligations.InvariantHoldsAtReset
  exact ⟨inv_afterReset 0 false, fun straps level => inv_afterReset (nodeOfStraps straps) level⟩

/-! ## SET_PARAMETER (R68, R155) -/

section
variable {s : State} {r : Request} {code v : Word} {p : Param}

theorem setParameterBody_of_none (ha : r.args = [code, v]) (hp : argParam code = none) :
    setParameterBody r s = respond r .badValue [] s := by simp [setParameterBody, ha, hp]

theorem setParameterBody_of_not_writable (ha : r.args = [code, v]) (hp : argParam code = some p)
    (hw : ¬ p.writtenWhile s) : setParameterBody r s = respond r .badState [] s := by
  simp [setParameterBody, ha, hp, mt (Param.writable_iff p s).mp hw]

theorem setParameterBody_of_not_admitted (ha : r.args = [code, v]) (hp : argParam code = some p)
    (hw : p.writtenWhile s) (hv : ¬ p.admits v) : setParameterBody r s = respond r .badValue [] s := by
  simp [setParameterBody, ha, hp, (Param.writable_iff p s).mpr hw, Params.set_of_not_admits hv]

theorem setParameterBody_of_accepted {ps : Params} (ha : r.args = [code, v]) (hp : argParam code = some p)
    (hw : p.writtenWhile s) (hset : s.params.set p v = some ps) :
    setParameterBody r s = respond r .done [code, v] (putParams p ps s) := by
  simp [setParameterBody, ha, hp, (Param.writable_iff p s).mpr hw, hset]

theorem putParams_of_ne (ps : Params) (h : p ≠ .trigoutMode) : putParams p ps s = { s with params := ps } := by
  cases p with
  | trigoutMode => exact absurd rfl h
  | _ => rfl

/-- PULSE written over PULSE leaves everything (R68). -/
theorem trigoutModeWritten_pulse_again (h : s.params.trigoutMode = .pulse) :
    trigoutModeWritten s.params.trigoutMode { s with params.trigoutMode := .pulse } = s := by
  rw [h]
  calc trigoutModeWritten .pulse { s with params.trigoutMode := .pulse }
    _ = { s with params.trigoutMode := .pulse } := rfl
    _ = s := by rw [← h]

/-- PULSE written over OFF or LEVEL takes the line low and the timer idle (R68; log entry 14). -/
theorem trigoutModeWritten_pulse_of_ne (h : s.params.trigoutMode ≠ .pulse) :
    trigoutModeWritten s.params.trigoutMode { s with params.trigoutMode := .pulse } =
      driveTrigout false { s with params.trigoutMode := .pulse } := by
  simp only [trigoutModeWritten, if_neg h]

/-- A write of TRIGOUT_MODE is accepted in every state (R155), and acts on the line by the mode that was in force (R68). -/
theorem setParameterBody_trigoutMode {mode : TrigoutMode} (ha : r.args = [16, v]) (hv : v = word mode.code) :
    setParameterBody r s = respond r .done [16, v]
      (trigoutModeWritten s.params.trigoutMode { s with params.trigoutMode := mode }) := by
  rw [setParameterBody_of_accepted (p := .trigoutMode) (ps := { s.params with trigoutMode := mode }) ha rfl trivial
    (by subst hv; cases mode <;> rfl)]
  rfl

end

/-- Settles O15: each refusal and each effect by its own lemma. -/
theorem setParameterChecksThenPutsInForce : Obligations.SetParameterChecksThenPutsInForce := by
  unfold Obligations.SetParameterChecksThenPutsInForce
  refine ⟨?parameters, ?trigout⟩
  case parameters =>
    intro s r rest code v hx hk ha table
    rw [hx.exec_request (body := setParameterBody) rfl hk]
    refine ⟨fun hcode => ?_, fun p hcode hp => ?_⟩
    · rw [setParameterBody_of_none ha (argParam_eq_none hcode), hx.respond_popped]
    have hp : argParam code = some p := (argParam_eq_table hcode).trans hp
    refine ⟨fun h => ?_, fun h hv => ?_, fun h hv hne => ?_⟩
    · rw [setParameterBody_of_not_writable (s := popRequest s) ha hp h, hx.respond_popped]
    · rw [setParameterBody_of_not_admitted (s := popRequest s) ha hp h hv, hx.respond_popped]
    · obtain ⟨ps, hset⟩ := s.params.set_of_admits hv
      obtain ⟨-, hsame, hother⟩ := Params.set_eq_some hset
      refine ⟨ps, hsame, hother, ?_⟩
      rw [setParameterBody_of_accepted (s := popRequest s) ha hp h hset, putParams_of_ne ps hne, hx.popped]
      rfl
  case trigout =>
    intro s r rest v hx hk ha a
    rw [hx.exec_request (body := setParameterBody) rfl hk]
    refine ⟨fun hv => ?_, fun hv => ?_, fun hv hmode => ?_, fun hv hmode => ?_⟩
    · rw [setParameterBody_trigoutMode (s := popRequest s) (mode := .off) ha hv, hx.popped]
      rfl
    · rw [setParameterBody_trigoutMode (s := popRequest s) (mode := .level) ha hv, hx.popped]
      rfl
    · rw [setParameterBody_trigoutMode (s := popRequest s) (mode := .pulse) ha hv,
        trigoutModeWritten_pulse_again (s := popRequest s) hmode, hx.respond_popped]
    · rw [setParameterBody_trigoutMode (s := popRequest s) (mode := .pulse) ha hv,
        trigoutModeWritten_pulse_of_ne (s := popRequest s) hmode, hx.popped]
      rfl

end Sys2Proof.Machine
end

section
/-! PROOFS. Requests that act on the run, the capture sequence, the windows and the slot; kinds and counts that are refused;
the close of a record (01, 03, 05, 06, 08): O18, O22, O24, O27, O30, O31, O54. -/

namespace Sys2Proof.Machine

/-! ## FORCE_TRIGGER (R62) -/

section
variable {s : State} {r : Request}

theorem CaptureState.armed_iff {x : CaptureState} : x.armed = true ↔ x = .filling ∨ x = .ready := by
  cases x <;> simp [CaptureState.armed]

theorem forceTriggerBody_of_armed (ha : r.args = []) (h : s.capture.state.armed = true) :
    forceTriggerBody r s = respond r .done [] { s with trigger.forced := true } := by
  simp only [forceTriggerBody, ha, h, if_true]

theorem forceTriggerBody_of_not_armed (ha : r.args = []) (h : s.capture.state.armed = false) :
    forceTriggerBody r s = respond r .badState [] s := by
  simp only [forceTriggerBody, ha, h, Bool.false_eq_true, if_false]

end

/-- Settles O22: the five capture states are the two armed ones and the three that are not. -/
theorem forceTriggerSetsTheFlagWhileArmed : Obligations.ForceTriggerSetsTheFlagWhileArmed := by
  unfold Obligations.ForceTriggerSetsTheFlagWhileArmed
  intro s r rest hx hk ha
  rw [hx.exec_request (body := forceTriggerBody) rfl hk]
  refine ⟨fun h => ?_, fun h => ?_⟩
  · rw [forceTriggerBody_of_armed (s := popRequest s) ha (CaptureState.armed_iff.mpr h), hx.popped]
    rfl
  · have h : (popRequest s).capture.state.armed = false := by
      rcases h with h | h | h <;> simp [h, CaptureState.armed]
    rw [forceTriggerBody_of_not_armed ha h, hx.respond_popped]

/-! ## The close of a record (R98, R103, R106, R108) -/

/-- The close steps of an open record (R98): TRIGOUT in LEVEL goes low after the notice. -/
theorem closeRecord_of_open {s : State} {o : OpenRecord} (truncated cut : Bool) (h : s.capture.openRecord = some o) :
    closeRecord truncated cut s =
      let q := o.close s.params.posttriggerSweeps truncated cut
      let quota := if cut then s.capture.quota else s.capture.quota - 1
      trigoutPostLeft (postNotice (.recordClosed o.id q.header.total o.shortHead o.headLost truncated cut quota)
        { s with
          delivery.queue := s.delivery.queue ++ [q]
          capture.openRecord := none
          capture.quota := quota }) := by
  rw [closeRecord, h]

/-- TRIGOUT goes low in LEVEL when capture leaves POST, and only then (R67). -/
theorem trigoutPostLeft_of_mode {s : State} {mode : TrigoutMode} (h : s.params.trigoutMode = mode) :
    trigoutPostLeft s = if mode = .level then { s with trigger.trigout := false } else s := by
  rw [trigoutPostLeft, h]
  cases mode <;> rfl

theorem disarmEffects_of_post {s : State} (h : s.capture.state = .post) :
    disarmEffects s = { closeRecord false true s with trigger.forced := false, capture.state := .idle } := by
  rw [disarmEffects, h]
  rfl

theorem runEndReport_of_post {s : State} (h : s.capture.state = .post) :
    runEndReport s = quotaPath (closeRecord false true s) := by
  rw [runEndReport, h]

theorem runEndReport_of_not_post {s : State} (h : s.capture.state ≠ .post) : runEndReport s = s := by
  unfold runEndReport
  split
  · next hp => exact absurd hp h
  all_goals rfl

/-- Settles O54. -/
theorem recordClosesIntoTheQueue : Obligations.RecordClosesIntoTheQueue := by
  unfold Obligations.RecordClosesIntoTheQueue
  refine ⟨fun s => ⟨rfl, rfl, disarmEffects_of_post, runEndReport_of_post, runEndReport_of_not_post⟩, ?_⟩
  intro s truncated cut o ho post total header quota a
  rw [closeRecord_of_open truncated cut ho, trigoutPostLeft_of_mode (mode := s.params.trigoutMode) (by simp)]
  rfl

/-! ## DISARM (R106) -/

section
variable {s : State} {r : Request}

theorem disarmBody_of_halted (ha : r.args = []) (h : s.capture.state = .halted) :
    disarmBody r s = respond r .badState [] s := by
  simp only [disarmBody, ha, h, if_true]

theorem disarmBody_of_not_halted (ha : r.args = []) (h : s.capture.state ≠ .halted) :
    disarmBody r s = respond r .done [] (disarmEffects s) := by
  simp only [disarmBody, ha, if_neg h]

theorem disarmEffects_of_idle (h : s.capture.state = .idle) : disarmEffects s = s := by
  rw [disarmEffects, h]

theorem disarmEffects_of_armed (h : s.capture.state = .filling ∨ s.capture.state = .ready) :
    disarmEffects s =
      { s with
        memory.free := s.memory.free + blocksCost s.memory.history + s.memory.reservation
        memory.history := []
        memory.reservation := 0
        trigger.forced := false
        capture.state := .idle } := by
  rcases h with h | h <;> rw [disarmEffects, h] <;> rfl

end

/-- Settles O24. -/
theorem disarmActsByCaptureState : Obligations.DisarmActsByCaptureState := by
  unfold Obligations.DisarmActsByCaptureState
  intro s r rest hx hk ha
  rw [hx.exec_request (body := disarmBody) rfl hk]
  have answers (h : s.capture.state ≠ .halted) :
      disarmBody r (popRequest s) = respond r .done [] (disarmEffects (popRequest s)) := disarmBody_of_not_halted ha h
  refine ⟨fun h => ?idle, fun h => ?armed, fun h => ?post, fun h => ?halted⟩
  case idle => rw [answers (by simp [h]), disarmEffects_of_idle (s := popRequest s) h, hx.respond_popped]
  case armed =>
    have hne : s.capture.state ≠ .halted := by rcases h with h | h <;> simp [h]
    rw [answers hne, disarmEffects_of_armed (s := popRequest s) h, hx.popped]
    rfl
  case post => rw [answers (by simp [h]), disarmEffects_of_post (s := popRequest s) h, hx.popped]
  case halted => rw [disarmBody_of_halted (s := popRequest s) ha h, hx.respond_popped]

/-! ## RESET_ENGINE (R152, R159) -/

/-- RESET_ENGINE takes the slot and sets the hold, after a STOP_RUN in the slot has been superseded. -/
theorem resetEngineBody_of_nil {r : Request} (s : State) (ha : r.args = []) :
    resetEngineBody r s =
      { supersedeStop s with manager.deferred := .resetEngine r, manager.resetHold := true } := by
  simp only [resetEngineBody, ha]

/-- Settles O30. -/
theorem resetEngineEntersTheSlot : Obligations.ResetEngineEntersTheSlot := by
  unfold Obligations.ResetEngineEntersTheSlot
  intro s r rest hx hk ha p
  rw [hx.exec_request (body := resetEngineBody) rfl hk, resetEngineBody_of_nil _ ha, hx.popped]
  refine ⟨fun hd => ?_, fun q hd => ?_⟩
  · simp only [supersedeStop, hd]
    rfl
  · simp only [supersedeStop, hd]
    rfl

/-! ## CLOSE_WINDOW (R122) -/

section
variable {s : State} {r : Request} {arg : Word} {w : WindowId}

theorem closeWindowBody_of_none (ha : r.args = [arg]) (hw : argWindow arg = none) :
    closeWindowBody r s = respond r .badValue [] s := by simp only [closeWindowBody, ha, hw]

theorem closeWindowBody_of_closed (ha : r.args = [arg]) (hw : argWindow arg = some w)
    (h : (s.delivery.window w).opened = false) : closeWindowBody r s = respond r .badState [] s := by
  simp only [closeWindowBody, ha, hw, h, Bool.false_eq_true, if_false]

theorem closeWindowBody_of_opened (ha : r.args = [arg]) (hw : argWindow arg = some w)
    (h : (s.delivery.window w).opened = true) : closeWindowBody r s = respond r .done [] (closeOpenWindow w s) := by
  simp only [closeWindowBody, ha, hw, h, if_true]

/-- A close while a record frame goes into the current window only makes the close pending. -/
theorem closeOpenWindow_of_frame (hw : w = s.delivery.current) (hf : s.frameUnderWay ≠ none) :
    closeOpenWindow w s = putWindow w { s.delivery.window w with closePending := true } s := by
  rw [closeOpenWindow, if_pos hw, if_pos (Option.isSome_iff_ne_none.mpr hf)]

theorem closeOpenWindow_of_current (hw : w = s.delivery.current) (hf : s.frameUnderWay = none) :
    closeOpenWindow w s = completeWindow w true s := by
  rw [closeOpenWindow, if_pos hw, if_neg (by simp [hf])]

theorem closeOpenWindow_of_other (hw : w ≠ s.delivery.current) : closeOpenWindow w s = finishWindow w true s := if_neg hw

end

/-- Settles O27. -/
theorem closeWindowActsByTheWindow : Obligations.CloseWindowActsByTheWindow := by
  unfold Obligations.CloseWindowActsByTheWindow
  intro s r rest arg hx hk ha
  rw [hx.exec_request (body := closeWindowBody) rfl hk]
  refine ⟨fun h => ?_, fun w harg => ?_⟩
  · rw [closeWindowBody_of_none ha (argWindow_of_lt h), hx.respond_popped]
  intro x closed
  have hw : argWindow arg = some w := harg ▸ argWindow_code w
  have opened (h : x.opened = true) :
      closeWindowBody r (popRequest s) = respond r .done [] (closeOpenWindow w (popRequest s)) :=
    closeWindowBody_of_opened ha hw h
  refine ⟨fun h => ?_, fun h hc hf => ?_, fun h hc hf => ?_, fun h hc => ?_⟩
  · rw [closeWindowBody_of_closed (s := popRequest s) ha hw h, hx.respond_popped]
  · rw [opened h, closeOpenWindow_of_frame (s := popRequest s) hc hf, hx.popped]
    rfl
  · rw [opened h, closeOpenWindow_of_current (s := popRequest s) hc hf, hx.popped]
    rfl
  · rw [opened h, closeOpenWindow_of_other (s := popRequest s) hc, hx.popped]
    rfl

/-! ## START_RUN (R8, R9, R66, R109) -/

section
variable {s : State} {r : Request} {lines : Lines}

theorem startRunBody_of_bad_state (ha : r.args = []) (h : s.sweeper.run ≠ .stopped ∨ s.capture.state = .halted) :
    startRunBody lines r s = respond r .badState [] s := by
  simp only [startRunBody, ha, if_pos h]

/-- A condition keeps a run from starting exactly when it is not OFF and names an entry beyond the program (R8). -/
theorem Condition.beyond_iff {n : Nat} {c : Condition} :
    c.beyond n = true ↔ c.role ≠ .off ∧ ∃ i, c.source = .entry i ∧ n ≤ i := by
  unfold Condition.beyond
  cases c.source <;> simp

theorem startRunBody_of_beyond (ha : r.args = []) (hrun : s.sweeper.run = .stopped) (hcap : s.capture.state ≠ .halted)
    (h : s.trigger.conditions.any (Condition.beyond s.params.programLength) = true) :
    startRunBody lines r s = respond r .badValue [] s := by
  simp only [startRunBody, ha, hrun, hcap, h, ne_eq, not_true_eq_false, or_self, if_false, if_true]

theorem startRunBody_of_accepted (ha : r.args = []) (hrun : s.sweeper.run = .stopped)
    (hcap : s.capture.state ≠ .halted)
    (h : s.trigger.conditions.any (Condition.beyond s.params.programLength) = false) :
    startRunBody lines r s =
      let u := enterRun (prepareRun (seeLines lines s))
      respond r .done [word u.sweeper.fixedS, word u.cost] u := by
  simp only [startRunBody, ha, hrun, hcap, h, ne_eq, not_true_eq_false, or_self, Bool.false_eq_true, if_false]

/-- Armed capture is restarted with its history discarded (R9, R109). -/
theorem restartCapture_of_armed (h : s.capture.state = .filling ∨ s.capture.state = .ready) :
    restartCapture s =
      { s with
        memory.history := []
        memory.free := s.memory.free + blocksCost s.memory.history
        trigger.stage := freshStage s.trigger.conditions
        capture.state := if s.params.pretriggerSweeps = 0 then .ready else .filling } := by
  have hrestart : restartCapture s = setArmedState (setStageAfresh (dropHistory s)) := by
    rcases h with h | h <;> rw [restartCapture, h]
  rw [hrestart, setArmedState, armedState_of_no_history (by simp [dropHistory])]
  rfl

theorem restartCapture_of_not_armed (h : ¬ (s.capture.state = .filling ∨ s.capture.state = .ready)) :
    restartCapture s = dropHistory s := by
  unfold restartCapture
  split
  · next h1 => exact absurd (.inl h1) h
  · next h1 => exact absurd (.inr h1) h
  all_goals rfl

/-- Conditions set UNKNOWN keep their roles, so they give the same stage (R56, R66). -/
theorem freshStage_map_unknown (cs : List Condition) :
    freshStage (cs.map fun c => c.unknown.unfired) = freshStage cs := by
  simp only [freshStage, List.any_map]
  rfl

/-- What START_RUN sets before the run is entered (R9, R66). -/
theorem prepareRun_eq (s : State) :
    prepareRun s =
      { s with
        sweeper.fixedS := s.prospectiveS
        sweeper.sweepNumber := 0
        sweeper.gapPending := false
        sweeper.endCause := none
        trigger.conditions := s.trigger.conditions.map fun c => c.unknown.unfired
        trigger.stage :=
          if s.capture.state = .filling ∨ s.capture.state = .ready then freshStage s.trigger.conditions
          else s.trigger.stage
        memory.history := []
        memory.free := s.memory.free + blocksCost s.memory.history
        capture.state :=
          if s.capture.state = .filling ∨ s.capture.state = .ready then
            (if s.params.pretriggerSweeps = 0 then .ready else .filling)
          else s.capture.state } := by
  by_cases h : s.capture.state = .filling ∨ s.capture.state = .ready
  · simp only [if_pos h]
    rw [prepareRun, restartCapture_of_armed, ← freshStage_map_unknown s.trigger.conditions]
    · rfl
    · exact h
  · simp only [if_neg h]
    rw [prepareRun, restartCapture_of_not_armed]
    · rfl
    · exact h

theorem enterRun_of_freeRun (h : s.params.startMode = .freeRun) :
    enterRun s = sweepStart { s with sweeper.run := .running, sweeper.pacer := some s.params.sweepPeriod } := by
  rw [enterRun, h]

theorem enterRun_of_lineStart (h : s.params.startMode = .lineStart) :
    enterRun s = { s with sweeper.run := .waitingLine, sweeper.pacer := none, sweeper.burstCount := 0 } := by
  rw [enterRun, h]

/-- A run that is entered leaves the S that was fixed, so DONE carries that S and the cost of its blocks (R3, R9). -/
theorem startRunBody_carries (ha : r.args = []) (hrun : s.sweeper.run = .stopped) (hcap : s.capture.state ≠ .halted)
    (h : s.trigger.conditions.any (Condition.beyond s.params.programLength) = false) :
    startRunBody lines r s =
      respond r .done [word s.prospectiveS, word (2 + s.prospectiveS)] (enterRun (prepareRun (seeLines lines s))) := by
  have hS : (enterRun (prepareRun (seeLines lines s))).sweeper.fixedS = s.prospectiveS := by
    rw [prepareRun_eq]
    simp
    rfl
  rw [startRunBody_of_accepted ha hrun hcap h]
  simp only [State.cost, hS, Config.blockHeaderCells]

end

/-- Settles O18. -/
theorem startRunChecksThenOpensTheRun : Obligations.StartRunChecksThenOpensTheRun := by
  unfold Obligations.StartRunChecksThenOpensTheRun
  refine ⟨?refused, ?accepted⟩
  case refused =>
    intro s r rest lines hx hk ha
    rw [hx.exec_request (body := startRunBody lines) rfl hk]
    refine ⟨fun h => ?_, fun hrun hcap ⟨c, hc, hrole, i, hi, hle⟩ => ?_⟩
    · rw [startRunBody_of_bad_state (s := popRequest s) ha h, hx.respond_popped]
    · have hbeyond := List.any_eq_true.mpr ⟨c, hc, Condition.beyond_iff.mpr ⟨hrole, i, hi, hle⟩⟩
      rw [startRunBody_of_beyond (s := popRequest s) ha hrun hcap hbeyond, hx.respond_popped]
  case accepted =>
    intro s r rest lines hx hk ha hrun hcap hin n armed u
    have hbeyond : s.trigger.conditions.any (Condition.beyond s.params.programLength) = false := by
      refine List.any_eq_false.mpr fun c hc hb => ?_
      obtain ⟨hrole, i, hi, hle⟩ := Condition.beyond_iff.mp hb
      exact absurd (hin c hc hrole i hi) (Nat.not_lt.mpr hle)
    have hprepared : prepareRun (seeLines lines (popRequest s)) = u := by
      rw [prepareRun_eq, hx.popped]
      rfl
    rw [hx.exec_request (body := startRunBody lines) rfl hk,
      startRunBody_carries (s := popRequest s) ha hrun hcap hbeyond, hprepared]
    refine ⟨fun hm => ?_, fun hm => ?_⟩
    · rw [enterRun_of_freeRun (s := u) hm]
      rfl
    · rw [enterRun_of_lineStart (s := u) hm]
      rfl

/-! ## The catalogue (R149, R179) -/

/-- The kind whose front request a command executes, and what it does with it. -/
def requestOfCommand : Instr → Option (Byte × (Request → State → State))
  | .echo => some (kindEcho, echoBody)
  | .readStatus => some (kindReadStatus, readStatusBody)
  | .setParameter => some (kindSetParameter, setParameterBody)
  | .getParameter => some (kindGetParameter, getParameterBody)
  | .writeProgramEntry => some (kindWriteProgramEntry, writeProgramEntryBody)
  | .readProgramEntry => some (kindReadProgramEntry, readProgramEntryBody)
  | .startRun lines => some (kindStartRun, startRunBody lines)
  | .stopRun => some (kindStopRun, stopRunBody)
  | .writeCondition => some (kindWriteCondition, writeConditionBody)
  | .readCondition => some (kindReadCondition, readConditionBody)
  | .forceTrigger => some (kindForceTrigger, forceTriggerBody)
  | .arm => some (kindArm, armBody)
  | .disarm => some (kindDisarm, disarmBody)
  | .clearHalt => some (kindClearHalt, clearHaltBody)
  | .openWindow => some (kindOpenWindow, openWindowBody)
  | .closeWindow => some (kindCloseWindow, closeWindowBody)
  | .discardRecord => some (kindDiscardRecord, discardRecordBody)
  | .readCounters => some (kindReadCounters, readCountersBody)
  | .resetEngine => some (kindResetEngine, resetEngineBody)
  | _ => none

/-- Such a command executes the front request. -/
theorem effect_of_requestOfCommand {c : Instr} {kind : Byte} {body : Request → State → State}
    (h : requestOfCommand c = some (kind, body)) (s : State) : effect c s = executeFront kind body s := by
  cases c with
  | echo | readStatus | setParameter | getParameter | writeProgramEntry | readProgramEntry | startRun | stopRun
  | writeCondition | readCondition | forceTrigger | arm | disarm | clearHalt | openWindow | closeWindow | discardRecord
  | readCounters | resetEngine =>
    cases h
    rfl
  | _ => cases h

/-- A request of its kind with another number of arguments than the catalogue's is answered BAD_VALUE, with no effect. -/
theorem body_of_wrong_count {c : Instr} {kind : Byte} {body : Request → State → State}
    (h : requestOfCommand c = some (kind, body)) {r : Request} (hcount : r.args.length ≠ argCount kind.toNat) (s : State) :
    body r s = respond r .badValue [] s := by
  cases c with
  | echo | readStatus | setParameter | getParameter | writeProgramEntry | readProgramEntry | startRun | stopRun
  | writeCondition | readCondition | forceTrigger | arm | disarm | clearHalt | openWindow | closeWindow | discardRecord
  | readCounters | resetEngine =>
    cases h
    simp only [echoBody, readStatusBody, setParameterBody, getParameterBody, writeProgramEntryBody, readProgramEntryBody,
      startRunBody, stopRunBody, writeConditionBody, readConditionBody, forceTriggerBody, armBody, disarmBody,
      clearHaltBody, openWindowBody, closeWindowBody, discardRecordBody, readCountersBody, resetEngineBody]
    split
    · next ha => exact absurd (congrArg List.length ha) hcount
    · rfl
  | _ => cases h

/-- The nineteen commands of the catalogue, by kind code. -/
def catalogue (lines : Lines) : List Instr :=
  [ .echo, .readStatus, .setParameter, .getParameter, .writeProgramEntry, .readProgramEntry, .startRun lines, .stopRun,
    .writeCondition, .readCondition, .forceTrigger, .arm, .disarm, .clearHalt, .openWindow, .closeWindow, .discardRecord,
    .readCounters, .resetEngine ]

/-- The kind codes of the catalogue are 1 to 19, each executed by its own command. -/
theorem requestCommand_eq_catalogue {kind : Byte} {lines : Lines} {c : Instr} (h : 1 ≤ kind.toNat)
    (hc : (catalogue lines)[kind.toNat - 1]? = some c) :
    requestCommand kind lines = c ∧ ∃ body, requestOfCommand c = some (kind, body) := by
  have hkind : kind = BitVec.ofNat 8 kind.toNat := by simp
  have hle : kind.toNat ≤ 19 := by
    have := (List.getElem?_eq_some_iff.mp hc).1
    simp only [catalogue, List.length_cons, List.length_nil] at this
    omega
  generalize kind.toNat = n at h hc hkind hle
  subst hkind
  interval_cases n <;> cases hc <;> exact ⟨rfl, _, rfl⟩

theorem exists_catalogue (lines : Lines) {n : Nat} (h1 : 1 ≤ n) (h2 : n ≤ 19) : ∃ c, (catalogue lines)[n - 1]? = some c :=
  ⟨_, List.getElem?_eq_getElem (by simp only [catalogue, List.length_cons, List.length_nil]; omega)⟩

theorem inCatalogue_iff {kind : Byte} : inCatalogue kind = true ↔ 1 ≤ kind.toNat ∧ kind.toNat ≤ 19 := by
  simp [inCatalogue]

/-- A kind code outside 1 to 19 is executed as an unknown kind. -/
theorem requestCommand_of_unknown {kind : Byte} (lines : Lines) (h : kind.toNat = 0 ∨ 19 < kind.toNat) :
    requestCommand kind lines = .unknownRequestKind := by
  have hne (k : Byte) (hk : 1 ≤ k.toNat ∧ k.toNat ≤ 19) : kind ≠ k := fun heq => by subst heq; omega
  simp only [requestCommand, hne kindEcho (by decide), hne kindReadStatus (by decide), hne kindSetParameter (by decide),
    hne kindGetParameter (by decide), hne kindWriteProgramEntry (by decide), hne kindReadProgramEntry (by decide),
    hne kindStartRun (by decide), hne kindStopRun (by decide), hne kindWriteCondition (by decide),
    hne kindReadCondition (by decide), hne kindForceTrigger (by decide), hne kindArm (by decide),
    hne kindDisarm (by decide), hne kindClearHalt (by decide), hne kindOpenWindow (by decide),
    hne kindCloseWindow (by decide), hne kindDiscardRecord (by decide), hne kindReadCounters (by decide),
    hne kindResetEngine (by decide), if_false]

/-- The front request, if there is one that may execute, executes with some requests behind it. -/
theorem executes_of_front {s : State} {r : Request} (h : s.manager.front = some r) : ∃ rest, Executes s r rest := by
  unfold ManagementController.front at h
  split at h
  · cases h
  · next hheld =>
    obtain ⟨rest, hrest⟩ := List.head?_eq_some_iff.mp h
    exact ⟨rest, hrest, fun q hq => hheld (by simp [ManagementController.held, hq])⟩

/-- Without a front request of its kind a request command changes nothing (log entry 7). -/
theorem executeFront_of_other_kind {s : State} {kind : Byte} {body : Request → State → State}
    (h : ∀ r rest, Executes s r rest → r.kind ≠ kind) : executeFront kind body s = s := by
  unfold executeFront
  split
  · next r hr =>
    obtain ⟨rest, hx⟩ := executes_of_front hr
    rw [if_neg (h r rest hx)]
  · rfl

theorem unknownKind_of_outside {s : State} {r : Request} {rest : List Request} (hx : Executes s r rest)
    (h : inCatalogue r.kind = false) : unknownKind s = s.answered r rest .unknownRequest [] := by
  simp only [unknownKind, hx.front_eq, h, Bool.false_eq_true, if_false, hx.respond_popped]

theorem unknownKind_of_known {s : State} (h : ∀ r rest, Executes s r rest → inCatalogue r.kind = true) :
    unknownKind s = s := by
  unfold unknownKind
  split
  · next r hr =>
    obtain ⟨rest, hx⟩ := executes_of_front hr
    rw [if_pos (h r rest hx)]
  · rfl

/-- Settles O31. -/
theorem unknownKindsAndWrongCountsAreRefused : Obligations.UnknownKindsAndWrongCountsAreRefused := by
  unfold Obligations.UnknownKindsAndWrongCountsAreRefused
  refine ⟨fun s r rest lines hx => ⟨fun h => ?unknown, fun h1 h2 hcount => ?count⟩,
    fun s kind lines => ⟨fun h1 h2 hno => ?noRequest, fun hknown => ?noUnknown⟩,
    fun kind lines => ⟨fun c h hc => (requestCommand_eq_catalogue h hc).1, requestCommand_of_unknown lines⟩⟩
  case unknown =>
    have hout : inCatalogue r.kind = false := by
      refine Bool.eq_false_iff.mpr fun hin => ?_
      obtain ⟨h1, h2⟩ := inCatalogue_iff.mp hin
      rcases h with h | h
      · simp [h] at h1
      · omega
    rw [exec_effect, effect, unknownKind_of_outside hx hout]
  case count =>
    obtain ⟨c, hc⟩ := exists_catalogue lines h1 h2
    obtain ⟨hcommand, body, hbody⟩ := requestCommand_eq_catalogue h1 hc
    rw [hcommand, hx.exec_request (effect_of_requestOfCommand hbody s) rfl, body_of_wrong_count hbody hcount,
      hx.respond_popped]
  case noRequest =>
    obtain ⟨c, hc⟩ := exists_catalogue lines h1 h2
    obtain ⟨hcommand, body, hbody⟩ := requestCommand_eq_catalogue h1 hc
    rw [hcommand, exec_effect, effect_of_requestOfCommand hbody, executeFront_of_other_kind hno]
  case noUnknown =>
    rw [exec_effect, effect, unknownKind_of_known fun r rest hx => inCatalogue_iff.mpr (hknown r rest hx)]

end Sys2Proof.Machine
end

section
/-! PROOFS. Receptions, the states of the links, and what a link does as it goes DOWN (02, 09): O33, O34, O35, O36. -/

namespace Sys2Proof.Machine

/-! ## A good frame on an UP link (R163) -/

section
variable {s : State}

/-- On an UP intake link a good frame clears the bad run. -/
theorem goodReception_intake_of_up (hup : s.intake.link.state = .up) :
    goodReception .intake s = { s with intake.link.badRun := 0 } := by
  simp [goodReception, setLink, setIntakeLink, State.link, Link.good, hup]

theorem receiveGoodFrame_intake_of_up (hup : s.intake.link.state = .up) (handOn : State → State) :
    receiveGoodFrame .intake handOn s = handOn { s with intake.link.badRun := 0 } := by
  rw [receiveGoodFrame, if_pos (show (s.link .intake).state = .up from hup), goodReception_intake_of_up hup]

/-- On a link that is not UP a good frame counts for the link and goes to no block. -/
theorem receiveGoodFrame_of_not_up {p : Port} (hup : (s.link p).state ≠ .up) (handOn : State → State) :
    receiveGoodFrame p handOn s = setLink p (s.link p).good s := by
  rw [receiveGoodFrame, if_neg hup, goodReception]

end

/-! ## SAMPLE (R35 to R39) -/

section
variable {s : State} {f : SampleFrame}

theorem matchReply_of_no_request (h : s.tracker.tags[f.tag.toNat]? = none ∨ s.tracker.tags[f.tag.toNat]? = some .free) :
    matchReply f s = strayReply s := by
  rcases h with h | h <;> simp only [matchReply, h]

theorem matchReply_of_quarantined {n : Nat} (h : s.tracker.tags[f.tag.toNat]? = some (.quarantined n)) :
    matchReply f s = lateReply f.tag.toNat s := by
  simp only [matchReply, h]

theorem matchReply_of_waiting {e : InFlight} (htag : s.tracker.tags[f.tag.toNat]? = some .inFlight)
    (he : s.tracker.inFlight.find? (fun e => e.tag == f.tag.toNat) = some e) (hr : e.remaining = none) :
    matchReply f s = strayReply s := by
  simp only [matchReply, htag, he, hr, Option.isSome_none, Bool.false_eq_true, if_false]

theorem matchReply_of_timing {e : InFlight} (htag : s.tracker.tags[f.tag.toNat]? = some .inFlight)
    (he : s.tracker.inFlight.find? (fun e => e.tag == f.tag.toNat) = some e) (hr : e.remaining ≠ none) :
    matchReply f s = timedReply f e s := by
  simp only [matchReply, htag, he, Option.isSome_iff_ne_none.mpr hr, if_true]

theorem timedReply_of_matched {e : InFlight} (hu : f.unit = e.unit) (hc : f.channel = e.channel) :
    timedReply f e s = completeRequest e (sampleContent f) .free s := if_pos ⟨hu, hc⟩

theorem timedReply_of_mismatched {e : InFlight} (h : f.unit ≠ e.unit ∨ f.channel ≠ e.channel) :
    timedReply f e s =
      completeRequest e (.missing .mismatch) (.quarantined s.params.replyTimeout)
        { s with counters.mismatchedReplies := satAdd s.counters.mismatchedReplies 1 } :=
  if_neg fun ⟨hu, hc⟩ => h.elim (· hu) (· hc)

end

/-- Settles O33: one lemma for each way the tag of a SAMPLE can stand. -/
theorem repliesAreMatchedByTag : Obligations.RepliesAreMatchedByTag := by
  unfold Obligations.RepliesAreMatchedByTag
  intro s f lines hup b stray tag entry
  have hreply : exec (.sampleReceived f lines) s = .next (settle (matchReply f b)) := by
    rw [exec_effect, effect, receiveSample, receiveGoodFrame_intake_of_up (s := seeLines lines s) hup]
    rfl
  rw [hreply]
  refine ⟨fun h => ?noRequest, fun n h => ?quarantined, fun h e he => ⟨fun hr => ?waiting, fun hr hu hc => ?matched,
    fun hr hne => ?mismatched⟩⟩
  case noRequest =>
    rw [matchReply_of_no_request (s := b) h]
    rfl
  case quarantined =>
    rw [matchReply_of_quarantined (s := b) h]
    rfl
  case waiting =>
    rw [matchReply_of_waiting (s := b) h he hr]
    rfl
  case matched =>
    rw [matchReply_of_timing (s := b) h he hr, timedReply_of_matched hu hc]
    rfl
  case mismatched => rw [matchReply_of_timing (s := b) h he hr, timedReply_of_mismatched hne]

/-! ## Passback (R165, R166) -/

/-- A frame whose check matches and whose kind is not SAMPLE goes to the passback buffer (R165, R166). -/
theorem receiveIntakeFrame_of_passback {s : State} {f : RawFrame} (hlen : f.payload.length ≤ 255)
    (hcheck : f.check = checkOf f.covered) (hkind : f.kind ≠ 2) :
    receiveIntakeFrame f s = receiveGoodFrame .intake (joinPassback f) s := by
  have hkind : f.kind ≠ kindSample := hkind
  have hgood : f.goodOnIntake = true := by simp [RawFrame.goodOnIntake, RawFrame.checks, hlen, hcheck, hkind]
  rw [receiveIntakeFrame, if_pos hgood, if_neg hkind]

/-- Settles O34. -/
theorem passbackJoinsOrIsCounted : Obligations.PassbackJoinsOrIsCounted := by
  unfold Obligations.PassbackJoinsOrIsCounted
  intro s f hlen hcheck hkind hup b
  rw [exec_effect, effect, receiveIntakeFrame_of_passback hlen hcheck hkind, receiveGoodFrame_intake_of_up hup]
  refine ⟨fun hroom => ?_, fun hfull => ?_⟩
  · rw [joinPassback, if_pos hroom]
  · rw [joinPassback, if_neg (Nat.not_lt.mpr hfull)]

/-! ## The table of the links (R163) -/

/-- A port's link takes the state it is given, and the other port's link stays. -/
theorem setLink_link (p q : Port) (l : Link) (s : State) : (setLink p l s).link q = if q = p then l else s.link q := by
  cases p <;> cases q <;> simp only [setLink, State.link, setIntakeLink, setDeliveryLink] <;> (repeat' split) <;> simp_all

@[simp] theorem settle_link (p : Port) (s : State) : (settle s).link p = s.link p := by
  cases p <;> simp [State.link]

@[simp] theorem countBadFrame_link (p q : Port) (s : State) : (countBadFrame p s).link q = s.link q := by
  cases p <;> cases q <;> rfl

/-- A bad frame is counted on an UP link, and the link takes what its table gives (R163, R165). -/
theorem receiveBadFrame_eq (p : Port) (s : State) :
    receiveBadFrame p s = setLink p (s.link p).bad (if (s.link p).state = .up then countBadFrame p s else s) := by
  rw [receiveBadFrame, badReception]
  split
  · rw [countBadFrame_link]
  · rfl

theorem Link.good_eq (l : Link) :
    l.good =
      match l.state with
      | .down => l
      | .aligning => if l.alignRun = 3 then ⟨.up, 4, 0⟩ else { l with alignRun := l.alignRun + 1 }
      | .up => { l with badRun := 0 } := by
  obtain ⟨state, alignRun, badRun⟩ := l
  cases state with
  | aligning =>
    by_cases h : alignRun = 3
    · subst h
      rfl
    · have h4 : ¬ alignRun + 1 = Config.alignRunUp := fun h4 => h (Nat.succ.inj h4)
      simp only [Link.good, if_neg h4, if_neg h]
  | _ => rfl

theorem Link.bad_eq (l : Link) :
    l.bad =
      match l.state with
      | .down => l
      | .aligning => { l with alignRun := 0 }
      | .up => if l.badRun = 7 then { l with state := .down, badRun := 8 } else { l with badRun := l.badRun + 1 } := by
  obtain ⟨state, alignRun, badRun⟩ := l
  cases state with
  | up =>
    by_cases h : badRun = 7
    · subst h
      rfl
    · have h8 : ¬ badRun + 1 = Config.badRunDown := fun h8 => h (Nat.succ.inj h8)
      simp only [Link.bad, if_neg h8, if_neg h]
  | _ => rfl

theorem Link.align_eq (l : Link) : l.align = if l.state = .down then { l with state := .aligning, alignRun := 0 } else l := by
  obtain ⟨state, alignRun, badRun⟩ := l
  cases state <;> rfl

theorem frameWhileAligning_of_aligning {p : Port} {s : State} (good : Bool) (h : (s.link p).state = .aligning) :
    frameWhileAligning p good s = setLink p (if good then (s.link p).good else (s.link p).bad) s := by
  rw [frameWhileAligning, if_pos h]
  cases good <;> rfl

/-- A command whose effects are a link's new state gives that port this link, and leaves the other port's. -/
theorem exec_gives_link {c : Instr} {p : Port} {x : Link} {s u : State} (hc : effect c s = setLink p x u)
    (hu : ∀ q, u.link q = s.link q) :
    ∃ t, exec c s = .next t ∧ t.link p = x ∧ ∀ q, q ≠ p → t.link q = s.link q := by
  refine ⟨_, exec_effect c s, ?_, fun q hq => ?_⟩
  · rw [settle_link, hc, setLink_link, if_pos rfl]
  · rw [settle_link, hc, setLink_link, if_neg hq, hu]

/-- The intake link takes a state that is no drop; reaching UP posts its notice (R163). -/
theorem setIntakeLink_of_no_drop {s : State} {l : Link} (h : ¬ (s.intake.link.state = .up ∧ l.state = .down)) :
    setIntakeLink l s =
      if s.intake.link.state ≠ .up ∧ l.state = .up then postNotice (.intakeLinkChanged true) { s with intake.link := l }
      else { s with intake.link := l } := by
  simp only [setIntakeLink, if_neg h]

theorem setDeliveryLink_of_no_drop {s : State} {l : Link} (h : ¬ (s.deliveryPort.link.state = .up ∧ l.state = .down)) :
    setDeliveryLink l s = { s with deliveryPort.link := l } := by
  simp only [setDeliveryLink, if_neg h]

/-- Settles O35: the link that each event gives, and then what else the event does. -/
theorem linksFollowTheirTable : Obligations.LinksFollowTheirTable := by
  unfold Obligations.LinksFollowTheirTable
  refine ⟨?links, ?effects⟩
  case links =>
    intro s p lines l good bad gives
    have hgood : (s.link p).good = good := Link.good_eq l
    have hbad : (s.link p).bad = bad := Link.bad_eq l
    rw [← hgood, ← hbad, ← Link.align_eq l]
    refine ⟨exec_gives_link rfl fun _ => rfl, exec_gives_link rfl fun _ => rfl,
      exec_gives_link (u := seeLines lines s) rfl ?_, exec_gives_link (receiveBadFrame_eq p (seeLines lines s)) ?_,
      exec_gives_link (u := seeLines lines s) rfl ?_, fun h => ⟨exec_gives_link (frameWhileAligning_of_aligning true h) ?_,
        exec_gives_link (frameWhileAligning_of_aligning false h) ?_⟩⟩
    case refine_1 | refine_3 => intro q; cases q <;> rfl
    case refine_2 =>
      intro q
      split
      · rw [countBadFrame_link]
        cases q <;> rfl
      · cases q <;> rfl
    case refine_4 | refine_5 => exact fun _ => rfl
  case effects =>
    intro s lines
    refine ⟨fun l h => setIntakeLink_of_no_drop h, fun l h => setDeliveryLink_of_no_drop h, fun p => exec_effect _ _,
      fun p => exec_effect _ _, fun p => ?_, fun p => ?_, fun p => ?_, fun p good h => ?_, fun p good h => ?_,
      fun f h => ?_, fun f h hlen hcheck hkind => ?_, fun r h hlen => ?_⟩
    · rw [exec_effect]
      cases p <;> rfl
    · rw [exec_effect]
      cases p <;> rfl
    · rw [exec_effect, effect, receiveBadFrame_eq]
      cases p <;> rfl
    · rw [exec_effect, effect, frameWhileAligning_of_aligning good h]
    · rw [exec_effect, effect, frameWhileAligning, if_neg h]
    · rw [exec_effect, effect, receiveSample, receiveGoodFrame_of_not_up (p := .intake) (s := seeLines lines s) h]
      rfl
    · rw [exec_effect, effect, receiveIntakeFrame_of_passback hlen hcheck hkind, receiveGoodFrame_of_not_up (p := .intake) h]
      rfl
    · rw [exec_effect, effect, receiveRequest, if_pos hlen, receiveGoodFrame_of_not_up (p := .delivery) h]
      rfl

/-! ## Link drops (R174, R175) -/

theorem setIntakeLink_of_drop {s : State} {l : Link} (hup : s.intake.link.state = .up) (hdown : l.state = .down) :
    setIntakeLink l s = intakeDropped { s with intake.link := l } := by
  simp [setIntakeLink, hup, hdown]

theorem setDeliveryLink_of_drop {s : State} {l : Link} (hup : s.deliveryPort.link.state = .up) (hdown : l.state = .down) :
    setDeliveryLink l s = deliveryDropped { s with deliveryPort.link := l } := by
  simp [setDeliveryLink, hup, hdown]

/-- The end of a CONVERT frame starts its request's timeout (R33). -/
theorem upFrameEnded_of_convert {s : State} {f : ConvertFrame} (h : s.intake.lane = some (.convert f)) :
    upFrameEnded s = startTimeout f { s with intake.lane := none } := by
  rw [upFrameEnded, h]

/-- The end of any other frame clears the lane alone. -/
theorem upFrameEnded_of_other {s : State} (h : ∀ f, s.intake.lane ≠ some (.convert f)) :
    upFrameEnded s = { s with intake.lane := none } := by
  unfold upFrameEnded
  split
  · next f hf => exact absurd hf (h f)
  · rfl
  · next hnone => rw [← hnone]

theorem frameUnderWay_eq_some {s : State} {f : RecordFrame} :
    s.frameUnderWay = some f ↔ s.deliveryPort.lane = some (.record f) := by
  unfold State.frameUnderWay
  split
  · next h => simp [h]
  all_goals next h => simp [h]

/-- The end of a record frame goes to the Delivery Unit (R118). -/
theorem downFrameEnded_of_record {s : State} {f : RecordFrame} (h : s.frameUnderWay = some f) :
    downFrameEnded s = recordFrameEnded f { s with deliveryPort.lane := none } := by
  rw [downFrameEnded, frameUnderWay_eq_some.mp h]

theorem downFrameEnded_of_other {s : State} (h : s.frameUnderWay = none) :
    downFrameEnded s = { s with deliveryPort.lane := none } := by
  unfold downFrameEnded
  split
  · next f hf => simp [frameUnderWay_eq_some.mpr hf] at h
  · rfl
  · rfl
  · rfl
  · next hnone => rw [← hnone]

/-- Settles O36: the lane's frame decides the first step of each drop. -/
theorem linkDropsTakeTheirSteps : Obligations.LinkDropsTakeTheirSteps := by
  unfold Obligations.LinkDropsTakeTheirSteps
  refine ⟨fun s l hup hdown => ?intake, fun s l hup hdown => ?delivery⟩
  case intake =>
    intro dropped ends
    rw [setLink, setIntakeLink_of_drop hup hdown, intakeDropped]
    refine ⟨fun f hf => ?_, fun hf => ?_⟩
    · rw [upFrameEnded_of_convert (s := { s with intake.link := l }) hf]
      rfl
    · rw [upFrameEnded_of_other (s := { s with intake.link := l }) hf]
  case delivery =>
    intro d ends
    rw [setLink, setDeliveryLink_of_drop hup hdown, deliveryDropped]
    refine ⟨fun hf => ?_, fun f hf => ?_⟩
    · rw [downFrameEnded_of_other (s := { s with deliveryPort.link := l }) hf]
    · rw [downFrameEnded_of_record (s := { s with deliveryPort.link := l }) hf]
      simp [ends, d]

end Sys2Proof.Machine
end

section
/-! PROOFS. The pacer, the start edges, the other timers, and the ends of transmissions (01, 02, 03, 06): O37, O38, O39, O40,
O41. -/

namespace Sys2Proof.Machine

/-! ## The pacer (R13, R14, R17) -/

section
variable {s : State}

theorem pacerEvent_of_none (h : s.sweeper.sweep = none) : pacerEvent s = sweepStart s := by
  simp only [pacerEvent, h, Option.isSome_none, Bool.false_eq_true, if_false]

theorem pacerEvent_of_some (h : s.sweeper.sweep ≠ none) : pacerEvent s = missSweep s :=
  if_pos (Option.isSome_iff_ne_none.mpr h)

theorem pacerExpires_of_running (hp : s.sweeper.pacer ≠ none) (hrun : s.sweeper.run = .running) :
    pacerExpires s = pacerEvent { s with sweeper.pacer := some s.params.sweepPeriod } := by
  obtain ⟨n, hn⟩ := Option.ne_none_iff_exists'.mp hp
  simp only [pacerExpires, hn, hrun]

/-- The pacer goes on while pacer events of the burst are still to come (R17). -/
theorem burstPacer_pred (n period : Nat) : burstPacer (n - 1) period = if 1 < n then some period else none := by
  simp only [burstPacer, Nat.sub_pos_iff_lt]

theorem pacerExpires_of_burst (hp : s.sweeper.pacer ≠ none) (hrun : s.sweeper.run = .burst) :
    pacerExpires s =
      pacerEvent
        { s with
          sweeper.burstCount := s.sweeper.burstCount - 1
          sweeper.pacer := if 1 < s.sweeper.burstCount then some s.params.sweepPeriod else none } := by
  obtain ⟨n, hn⟩ := Option.ne_none_iff_exists'.mp hp
  simp only [pacerExpires, hn, hrun, burstPacer_pred]

/-- An idle pacer has no expiry, and it is idle outside RUNNING and BURST (R6; log entry 7). -/
theorem pacerExpires_of_idle (h : s.sweeper.pacer = none ∨ s.sweeper.run = .stopped ∨ s.sweeper.run = .waitingLine ∨
    s.sweeper.run = .stopping) : pacerExpires s = s := by
  unfold pacerExpires
  split
  · next hp hrun => simp [hp, hrun] at h
  · next hp hrun => simp [hp, hrun] at h
  all_goals rfl

end

/-- Settles O37. -/
theorem pacerExpiryStartsOrMissesASweep : Obligations.PacerExpiryStartsOrMissesASweep := by
  unfold Obligations.PacerExpiryStartsOrMissesASweep
  intro s lines hp running burst missed
  rw [exec_effect, effect]
  have hrunning (hrun : s.sweeper.run = .running) : pacerExpires (seeLines lines s) = pacerEvent running :=
    pacerExpires_of_running (s := seeLines lines s) hp hrun
  have hburst (hrun : s.sweeper.run = .burst) : pacerExpires (seeLines lines s) = pacerEvent burst :=
    pacerExpires_of_burst (s := seeLines lines s) hp hrun
  refine ⟨fun hrun hs => ?_, fun hrun hs => ?_, fun hrun hs => ?_, fun hrun hs => ?_⟩
  · rw [hrunning hrun, pacerEvent_of_none (s := running) hs]
  · rw [hrunning hrun, pacerEvent_of_some (s := running) hs]
    rfl
  · rw [hburst hrun, pacerEvent_of_none (s := burst) hs]
  · rw [hburst hrun, pacerEvent_of_some (s := burst) hs]
    rfl

/-! ## The start edge (R15, R16) -/

section
variable {s : State} {level : Bool}

theorem startEdgeSeen_of_waitingLine (hrun : s.sweeper.run = .waitingLine) :
    startEdgeSeen s =
      sweepStart
        { s with
          sweeper.run := .burst
          sweeper.burstCount := s.params.burstSweeps - 1
          sweeper.pacer := if 1 < s.params.burstSweeps then some s.params.sweepPeriod else none } := by
  simp only [startEdgeSeen, hrun, burstPacer_pred]

theorem startEdgeSeen_of_ignored (hrun : s.sweeper.run = .burst ∨ s.sweeper.run = .stopping) :
    startEdgeSeen s = { s with counters.ignoredStartEdges := satAdd s.counters.ignoredStartEdges 1 } := by
  rcases hrun with h | h <;> simp only [startEdgeSeen, h]

theorem startEdgeSeen_of_no_effect (hrun : s.sweeper.run = .stopped ∨ s.sweeper.run = .running) : startEdgeSeen s = s := by
  rcases hrun with h | h <;> simp only [startEdgeSeen, h]

/-- The level that a start edge leads to is high for RISING and low for FALLING (R15). -/
theorem eq_level_iff (e : StartEdge) : level = e.level ↔ (level = true ↔ e = .rising) := by
  cases e <;> cases level <;> decide

theorem startLineLevel_of_same (h : level = s.sweeper.startLevel) : startLineLevel level s = s := if_pos h

theorem startLineLevel_of_edge (h : level ≠ s.sweeper.startLevel) (he : level = true ↔ s.params.startEdge = .rising) :
    startLineLevel level s = startEdgeSeen { s with sweeper.startLevel := level } := by
  rw [startLineLevel, if_neg h, if_pos ((eq_level_iff _).mpr he)]

theorem startLineLevel_of_other_edge (h : level ≠ s.sweeper.startLevel)
    (he : ¬ (level = true ↔ s.params.startEdge = .rising)) :
    startLineLevel level s = { s with sweeper.startLevel := level } := by
  rw [startLineLevel, if_neg h, if_neg (mt (eq_level_iff _).mp he)]

end

/-- Settles O38. -/
theorem startEdgesActByRunState : Obligations.StartEdgesActByRunState := by
  unfold Obligations.StartEdgesActByRunState
  intro s level lines hlevel u startEdge
  rw [exec_effect, effect]
  have hedge (he : startEdge) : startLineLevel level (seeLines lines s) = startEdgeSeen u :=
    startLineLevel_of_edge (s := seeLines lines s) hlevel he
  refine ⟨fun he => ?_, fun he hrun => ?_, fun he hrun => ?_, fun he hrun => ?_⟩
  · rw [startLineLevel_of_other_edge (s := seeLines lines s) hlevel he]
    rfl
  · rw [hedge he, startEdgeSeen_of_waitingLine (s := u) hrun]
  · rw [hedge he, startEdgeSeen_of_ignored (s := u) hrun]
  · rw [hedge he, startEdgeSeen_of_no_effect (s := u) hrun]

/-! ## Timeouts (R33, R34) -/

section
variable {s : State} {t : Nat}

theorem requestTimesOut_of_timing {e : InFlight} (he : s.tracker.inFlight.find? (fun x => x.tag == t) = some e)
    (hr : e.remaining ≠ none) :
    requestTimesOut t s =
      completeRequest e (.missing .timeout) (.quarantined s.params.replyTimeout)
        { s with counters.replyTimeouts := satAdd s.counters.replyTimeouts 1 } := by
  simp only [requestTimesOut, he, Option.isSome_iff_ne_none.mpr hr, if_true]

theorem requestTimesOut_of_not_timing
    (h : ∀ e, s.tracker.inFlight.find? (fun x => x.tag == t) = some e → e.remaining = none) : requestTimesOut t s = s := by
  unfold requestTimesOut
  split
  · next e he => rw [h e he, if_neg (by simp)]
  · rfl

end

/-- Settles O40. -/
theorem timeoutQuarantinesTheTag : Obligations.TimeoutQuarantinesTheTag := by
  unfold Obligations.TimeoutQuarantinesTheTag
  intro s t lines e he hr
  rw [exec_effect, effect, requestTimesOut_of_timing (s := seeLines lines s) he hr]
  rfl

/-! ## Spacing timer, quarantines and pulse timer (R30, R40, R67) -/

section
variable {s : State}

theorem spacingExpires_of_some (h : s.tracker.spacing ≠ none) :
    spacingExpires s = issueTest { s with tracker.spacing := none } := by
  obtain ⟨n, hn⟩ := Option.ne_none_iff_exists'.mp h
  simp only [spacingExpires, hn]

theorem spacingExpires_of_none (h : s.tracker.spacing = none) : spacingExpires s = s := by
  simp only [spacingExpires, h]

theorem quarantineEnds_of_quarantined {t n : Nat} (h : s.tracker.tags[t]? = some (.quarantined n)) :
    quarantineEnds t s = issueTest { s with tracker.tags := s.tracker.tags.set t .free } := by
  simp only [quarantineEnds, h]
  rfl

theorem quarantineEnds_of_other {t : Nat} (h : ∀ n, s.tracker.tags[t]? ≠ some (.quarantined n)) :
    quarantineEnds t s = s := by
  unfold quarantineEnds
  split
  · next n hn => exact absurd hn (h n)
  all_goals rfl

theorem pulseExpires_of_some (h : s.trigger.pulse ≠ none) :
    pulseExpires s = { s with trigger.trigout := false, trigger.pulse := none } := by
  obtain ⟨n, hn⟩ := Option.ne_none_iff_exists'.mp h
  simp only [pulseExpires, hn]
  rfl

theorem pulseExpires_of_none (h : s.trigger.pulse = none) : pulseExpires s = s := by simp only [pulseExpires, h]

/-! ## The ends of transmissions (R33, R168) -/

theorem convertEnds_of_convert {f : ConvertFrame} (h : s.intake.lane = some (.convert f)) :
    convertEnds s = startTimeout f { s with intake.lane := none } := by
  simp only [convertEnds, h, upFrameEnded_of_convert h]

theorem convertEnds_of_other (h : ∀ f, s.intake.lane ≠ some (.convert f)) : convertEnds s = s := by
  unfold convertEnds
  split
  · next f hf => exact absurd hf (h f)
  all_goals rfl

theorem otherFrameEnds_of_forward {r : Request} (h : s.intake.lane = some (.forward r)) :
    otherFrameEnds .intake s = { s with intake.lane := none } := by
  simp only [otherFrameEnds, h]
  exact upFrameEnded_of_other (by simp [h])

theorem otherFrameEnds_of_no_forward (h : ∀ r, s.intake.lane ≠ some (.forward r)) : otherFrameEnds .intake s = s := by
  simp only [otherFrameEnds]
  split
  · next r hr => exact absurd hr (h r)
  all_goals rfl

/-- The end of a response, notice or passback frame clears the delivery lane alone (R168). -/
theorem otherFrameEnds_delivery_of_no_record (h : s.deliveryPort.lane ≠ none) (hf : s.frameUnderWay = none) :
    otherFrameEnds .delivery s = { s with deliveryPort.lane := none } := by
  have hend := downFrameEnded_of_other hf
  simp only [otherFrameEnds]
  split
  · exact hend
  · exact hend
  · exact hend
  · next f hlane => simp [frameUnderWay_eq_some.mpr hlane] at hf
  · next hlane => exact absurd hlane h

theorem otherFrameEnds_delivery_of_none (h : s.deliveryPort.lane = none ∨ s.frameUnderWay ≠ none) :
    otherFrameEnds .delivery s = s := by
  simp only [otherFrameEnds]
  rcases h with h | h
  · rw [h]
  · obtain ⟨f, hf⟩ := Option.ne_none_iff_exists'.mp h
    rw [frameUnderWay_eq_some.mp hf]

theorem recordEnds_of_record {f : RecordFrame} (h : s.deliveryPort.lane = some (.record f)) :
    recordEnds s = recordFrameEnded f { s with deliveryPort.lane := none } := by
  simp only [recordEnds, h, downFrameEnded_of_record (frameUnderWay_eq_some.mpr h)]

theorem recordEnds_of_other (h : s.frameUnderWay = none) : recordEnds s = s := by
  unfold recordEnds
  split
  · next f hf => simp [frameUnderWay_eq_some.mpr hf] at h
  all_goals rfl

/-- While no RESET_ENGINE is deferred, or a lane still sends, the reset effects do not occur (R160; log entry 7). -/
theorem resetCompletes_of_not_due
    (h : (∀ r, s.manager.deferred ≠ .resetEngine r) ∨ s.intake.lane ≠ none ∨ s.deliveryPort.lane ≠ none) :
    resetCompletes s = s := by
  unfold resetCompletes
  split
  · next r hr =>
    refine if_neg fun hquiet => ?_
    simp only [State.lanesQuiet, Bool.and_eq_true, Option.isNone_iff_eq_none] at hquiet
    rcases h with h | h | h
    · exact h r hr
    · exact h hquiet.1
    · exact h hquiet.2
  all_goals rfl

end

/-- Settles O39. -/
theorem expiriesAndFrameEndsTakeEffect : Obligations.ExpiriesAndFrameEndsTakeEffect := by
  unfold Obligations.ExpiriesAndFrameEndsTakeEffect
  simp only [exec_effect, effect]
  refine ⟨fun s lines => ⟨fun h => ?_, fun t n h => ?_, fun h => ?_⟩, fun s => ⟨fun f h => ?_, fun r h => ?_, fun h hf => ?_⟩,
    fun s lines => ⟨fun h => ?_, ?_, fun h => ?_, fun t h => ?_, fun t h => ?_, fun h => ?_, fun h => ?_, fun h => ?_,
      fun h => ?_, fun h => ?_, fun h => ?_⟩⟩
  · rw [spacingExpires_of_some (s := seeLines lines s) h]
    rfl
  · rw [quarantineEnds_of_quarantined (s := seeLines lines s) h]
    rfl
  · rw [pulseExpires_of_some h]
  · rw [convertEnds_of_convert h]
    rfl
  · rw [otherFrameEnds_of_forward h]
  · rw [otherFrameEnds_delivery_of_no_record h hf]
  · rw [pacerExpires_of_idle (s := seeLines lines s) h]
    rfl
  · rw [startLineLevel_of_same (s := seeLines lines s) (level := s.sweeper.startLevel) rfl]
    rfl
  · rw [spacingExpires_of_none (s := seeLines lines s) h]
    rfl
  · rw [requestTimesOut_of_not_timing (s := seeLines lines s) h]
    rfl
  · rw [quarantineEnds_of_other (s := seeLines lines s) h]
    rfl
  · rw [pulseExpires_of_none h]
  · rw [convertEnds_of_other h]
  · rw [otherFrameEnds_of_no_forward h]
  · rw [recordEnds_of_other h]
  · rw [otherFrameEnds_delivery_of_none h]
  · rw [resetCompletes_of_not_due h]

/-! ## The end of a record frame (R118, R120, R121, R125) -/

section
variable {s : State} {f : RecordFrame}

/-- A window of the Delivery Unit is one of its two. -/
theorem window_congr {d d' : DeliveryUnit} (hA : d.windowA = d'.windowA) (hB : d.windowB = d'.windowB) (w : WindowId) :
    d.window w = d'.window w := by
  cases w with
  | a => exact hA
  | b => exact hB

/-- The completion tests of R120 on the window a frame went into: it completes, early only when it was pending. -/
theorem completionTests_of_window {w : WindowId} {y : Window} (last : Bool) (hy : s.delivery.window w = y) :
    completionTests w last s =
      if y.filled = y.size ∨ (last = true ∧ y.endAtRecord = true) ∨ y.closePending = true then
        { postNotice (.windowDone w y.tag y.filled y.closePending)
            { s with delivery := s.delivery.setWindow w { y with opened := false, closePending := false } } with
          delivery.current := w.other
          deliveryPort.turn := 0 }
      else s := by
  subst hy
  rfl

theorem recordFrameEnded_of_abandoned (h : f.abandoned = true) :
    recordFrameEnded f s = completionTests f.window true { s with delivery.note := none } := if_pos h

/-- With a payload the window fills and the cells are freed before the head record moves on (R118). -/
theorem recordFrameEnded_of_payload (h : f.abandoned = false) :
    recordFrameEnded f s =
      completionTests f.window f.last
        (advanceHead f
          { s with
            memory.free := s.memory.free + f.payload.length
            delivery := s.delivery.setWindow f.window
              { s.delivery.window f.window with
                filled := (s.delivery.window f.window).filled + f.payload.length } }) := by
  rw [recordFrameEnded, if_neg (by simp [h])]
  rfl

variable {q : QueuedRecord} {rest : List QueuedRecord}

theorem advanceHead_of_last (hq : s.delivery.queue = q :: rest) (h : f.last = true) :
    advanceHead f s = { s with delivery.queue := rest, delivery.position := 0 } := by
  simp only [advanceHead, hq, h, if_true]

theorem advanceHead_of_discarded (hq : s.delivery.queue = q :: rest) (h : f.last = false) (hd : q.discarded = true) :
    advanceHead f s =
      { s with
        delivery.queue := rest
        delivery.position := 0
        delivery.note := some { id := q.header.id, position := s.delivery.position + f.payload.length } } := by
  simp only [advanceHead, hq, h, hd, Bool.false_eq_true, if_false, if_true]

theorem advanceHead_of_not_last (hq : s.delivery.queue = q :: rest) (h : f.last = false) (hd : q.discarded = false) :
    advanceHead f s =
      { s with
        delivery.queue := { q with cells := q.cells.drop f.payload.length } :: rest
        delivery.position := s.delivery.position + f.payload.length } := by
  simp only [advanceHead, hq, h, hd, Bool.false_eq_true, if_false]

end

/-- Settles O41: the four ways the head record goes, each followed by the completion tests on the frame's window. -/
theorem recordFrameEndFollowsItsSteps : Obligations.RecordFrameEndFollowsItsSteps := by
  unfold Obligations.RecordFrameEndFollowsItsSteps
  intro s f hlane x n x' b filled tests
  rw [exec_effect, effect, recordEnds_of_record hlane]
  have hwindow (d : DeliveryUnit) (hA : d.windowA = filled.delivery.windowA) (hB : d.windowB = filled.delivery.windowB) :
      d.window f.window = x' := (window_congr hA hB _).trans (window_setWindow _ _ _)
  have hqueue : filled.delivery.queue = s.delivery.queue := (setWindow_keeps _ _ _).1
  have hposition : filled.delivery.position = s.delivery.position := by simp [filled]
  refine ⟨fun ha => ?abandoned, fun ha q rest hq => ⟨fun hl => ?last, fun hl hd => ?notLast, fun hl hd => ?discarded⟩⟩
  case abandoned =>
    rw [recordFrameEnded_of_abandoned ha, completionTests_of_window (y := x)]
    exact window_congr rfl rfl _
  all_goals
    have hq : filled.delivery.queue = q :: rest := hqueue.trans hq
    rw [recordFrameEnded_of_payload ha]
  case last =>
    rw [hl, advanceHead_of_last (s := filled) hq hl, completionTests_of_window (y := x')]
    exact hwindow _ rfl rfl
  case notLast =>
    rw [hl, advanceHead_of_not_last (s := filled) hq hl hd, completionTests_of_window (y := x')]
    · rw [hposition]
    · exact hwindow _ rfl rfl
  case discarded =>
    rw [hl, advanceHead_of_discarded (s := filled) hq hl hd, completionTests_of_window (y := x')]
    · rw [hposition]
    · exact hwindow _ rfl rfl

end Sys2Proof.Machine
end

section
/-! PROOFS. The clock and the events that are due, the choices of the arbiters, the fill of a sweep, and the frames that read
back (00, 02, 09): O3, O4, O47, O59. -/

namespace Sys2Proof.Machine

/-! ## The step on an empty queue (R160; log entries 1 to 3) -/

section
variable {s : State}

theorem held_iff (m : ManagementController) : m.held = true ↔ ∃ r, m.deferred = .resetEngine r := by
  unfold ManagementController.held
  cases m.deferred <;> simp

theorem resetDue_iff (s : State) :
    s.resetDue = true ↔ (∃ r, s.manager.deferred = .resetEngine r) ∧ s.intake.lane = none ∧ s.deliveryPort.lane = none := by
  simp only [State.resetDue, State.lanesQuiet, Bool.and_eq_true, held_iff, Option.isNone_iff_eq_none]

theorem step_of_empty (h : s.pending = []) : step s = .next (idle s) := by rw [step, h]

theorem idle_of_reset (h : s.resetDue = true) : idle s = { s with pending := [.resetEffects] } := if_pos h

theorem idle_of_events {e : Instr} {es : List Instr} (hr : s.resetDue = false) (he : s.eventsDue = e :: es) :
    idle s = { s with pending := [pickEvent s.choices e es], choices := s.choices + 1 } := by
  simp only [idle, hr, Bool.false_eq_true, if_false, he]

theorem idle_of_no_events (hr : s.resetDue = false) (he : s.eventsDue = []) : idle s = clockCycle s := by
  simp only [idle, hr, Bool.false_eq_true, if_false, he]

/-- Whatever the free choice, the event taken is one of those that come together. -/
theorem pickEvent_mem (k : Nat) (e : Instr) (es : List Instr) : pickEvent k e es ∈ e :: es := by
  cases es with
  | nil => exact List.mem_singleton.mpr rfl
  | cons e' es =>
    have hlt : Config.tieBreak k % ((e' :: es).length + 1) < (e :: e' :: es).length := Nat.mod_lt _ (Nat.succ_pos _)
    simp only [pickEvent, List.getD_eq_getElem _ _ hlt]
    exact List.getElem_mem hlt

/-! ## The events that are due -/

variable {c : Instr}

theorem mem_requestDue : c ∈ s.requestDue ↔ ∃ r rest, Executes s r rest ∧ c = requestCommand r.kind s.lines := by
  unfold State.requestDue
  constructor
  · intro hc
    split at hc
    · next r hr =>
      obtain ⟨rest, hx⟩ := executes_of_front hr
      exact ⟨r, rest, hx, List.mem_singleton.mp hc⟩
    · cases hc
  · rintro ⟨r, rest, hx, rfl⟩
    simp [hx.front_eq]

theorem mem_upEndDue : c ∈ s.upEndDue ↔
    (s.intake.cycles = 0 ∧ (∃ f, s.intake.lane = some (.convert f)) ∧ c = .convertSent) ∨
    (s.intake.cycles = 0 ∧ (∃ r, s.intake.lane = some (.forward r)) ∧ c = .frameTransmissionEnd .intake) := by
  unfold State.upEndDue
  by_cases hz : s.intake.cycles = 0
  · match hl : s.intake.lane with
    | none => simp [hz]
    | some (.convert f) => simp [hz]
    | some (.forward r) => simp [hz]
  · simp [hz]

theorem mem_downEndDue : c ∈ s.downEndDue ↔
    (s.deliveryPort.cycles = 0 ∧ s.frameUnderWay ≠ none ∧ c = .recordFrameEnd) ∨
    (s.deliveryPort.cycles = 0 ∧ s.deliveryPort.lane ≠ none ∧ s.frameUnderWay = none ∧
      c = .frameTransmissionEnd .delivery) := by
  unfold State.downEndDue State.frameUnderWay
  by_cases hz : s.deliveryPort.cycles = 0
  · match hl : s.deliveryPort.lane with
    | none => simp [hz]
    | some (.record f) => simp [hz]
    | some (.response r) => simp [hz]
    | some (.passback f) => simp [hz]
    | some (.notice n d) => simp [hz]
  · simp [hz]

theorem mem_expiryDue {timer : Option Nat} {i : Instr} : c ∈ expiryDue timer i ↔ timer = some 0 ∧ c = i := by
  unfold expiryDue
  split
  · next h => simp [h]
  · next h => simp [h]

/-- Of the timeouts that have reached 0 the oldest issue's is due (R27). -/
theorem mem_timeoutsDue : c ∈ s.timeoutsDue ↔
    ∃ older e newer, s.tracker.inFlight = older ++ e :: newer ∧ (∀ x ∈ older, x.remaining ≠ some 0) ∧
      e.remaining = some 0 ∧ c = .requestTimeout (Fin.ofNat 32 e.tag) s.lines := by
  have hfound (e : InFlight) : s.tracker.inFlight.find? (fun e => e.remaining = some 0) = some e ↔
      ∃ older newer, s.tracker.inFlight = older ++ e :: newer ∧ (∀ x ∈ older, x.remaining ≠ some 0) ∧
        e.remaining = some 0 := by
    rw [List.find?_eq_some_iff_append]
    constructor
    · rintro ⟨he, older, newer, hl, ho⟩
      exact ⟨older, newer, hl, fun x hx => by simpa using ho x hx, by simpa using he⟩
    · rintro ⟨older, newer, hl, ho, he⟩
      exact ⟨by simpa using he, older, newer, hl, fun x hx => by simpa using ho x hx⟩
  unfold State.timeoutsDue
  constructor
  · intro hc
    split at hc
    · next e he =>
      obtain ⟨older, newer, hl, ho, hr⟩ := (hfound e).mp he
      exact ⟨older, e, newer, hl, ho, hr, List.mem_singleton.mp hc⟩
    · cases hc
  · rintro ⟨older, e, newer, hl, ho, hr, rfl⟩
    rw [(hfound e).mpr ⟨older, newer, hl, ho, hr⟩]
    exact List.mem_singleton.mpr rfl

theorem mem_quarantinesDue : c ∈ s.quarantinesDue ↔
    ∃ t : Fin 32, s.tracker.tags[t.val]? = some (.quarantined 0) ∧ c = .quarantineExpiry t s.lines := by
  simp [State.quarantinesDue, eq_comm]

theorem clockCycle_of_cycle (h : s.clock.phase + 1 < 25) :
    clockCycle s =
      { s with
        intake.cycles := s.intake.cycles - 1
        deliveryPort.cycles := s.deliveryPort.cycles - 1
        clock.phase := s.clock.phase + 1 } := if_pos h

theorem clockCycle_of_tick (h : 25 ≤ s.clock.phase + 1) :
    clockCycle s =
      tick { s with intake.cycles := s.intake.cycles - 1, deliveryPort.cycles := s.deliveryPort.cycles - 1 } :=
  if_neg (Nat.not_lt.mpr h)

end

/-- Settles O3: what an empty queue leads to, what is due, and what a cycle of the clock does. -/
theorem ticksCountEveryTimerDown : Obligations.TicksCountEveryTimerDown := by
  unfold Obligations.TicksCountEveryTimerDown
  refine ⟨fun s => ⟨resetDue_iff s, fun hp hr => ?reset, fun hp hr he => ?event⟩, fun s c => ?due, fun s hp hr he => ?cycle⟩
  case reset => rw [step_of_empty hp, idle_of_reset hr]
  case event =>
    obtain ⟨e, es, hes⟩ := List.exists_cons_of_ne_nil he
    exact ⟨pickEvent s.choices e es, hes ▸ pickEvent_mem _ e es, by rw [step_of_empty hp, idle_of_events hr hes]⟩
  case due =>
    simp only [State.eventsDue, List.mem_append, mem_requestDue, mem_upEndDue, mem_downEndDue, mem_expiryDue,
      mem_timeoutsDue, mem_quarantinesDue, or_assoc]
  case cycle =>
    intro u
    rw [step_of_empty hp, idle_of_no_events hr he]
    refine ⟨fun h => ?_, fun h => ?_⟩
    · rw [clockCycle_of_cycle h]
    · rw [clockCycle_of_tick h]
      rfl

/-! ## The arbiters after every command (R168) -/

section
variable {s : State}

theorem upLaneFree_iff (s : State) :
    s.upLaneFree = true ↔ s.intake.link.state = .up ∧ s.intake.lane = none ∧ s.manager.resetHold = false := by
  simp [State.upLaneFree, and_assoc]

theorem downLaneFree_iff (s : State) :
    s.downLaneFree = true ↔ s.deliveryPort.link.state = .up ∧ s.deliveryPort.lane = none ∧ s.manager.resetHold = false := by
  simp [State.downLaneFree, and_assoc]

/-- The state in which the upstream arbiter chooses: with the forward buffer empty its turn count is 0 (R171). -/
def upChoice (s : State) : State := if s.intake.forward = [] then { s with intake.turn := 0 } else s

/-- The state in which the downstream arbiter chooses: with no record frame offered its turn count is 0 (R172). -/
def downChoice (s : State) : State := if s.offersRecord = true then s else { s with deliveryPort.turn := 0 }

theorem arbitrateUp_eq (s : State) :
    arbitrateUp s = if (upChoice s).upLaneFree = true then chooseUp (upChoice s) else upChoice s := by
  simp only [arbitrateUp, upChoice, List.isEmpty_iff]

theorem arbitrateDown_eq (s : State) :
    arbitrateDown s = if (downChoice s).downLaneFree = true then chooseDown (downChoice s) else downChoice s := rfl

theorem startUp_upLaneFree (f : UpFrame) (turn : Nat) (s : State) : (startUp f turn s).upLaneFree = false := by
  simp [State.upLaneFree, startUp]

theorem startDown_downLaneFree (f : DownFrame) (turn : Nat) (s : State) : (startDown f turn s).downLaneFree = false := by
  simp [State.downLaneFree, startDown]

/-- The upstream arbiter starts a frame or had none to choose from (R171). -/
theorem chooseUp_cases (s : State) :
    (chooseUp s).upLaneFree = false ∨ chooseUp s = s ∧ s.intake.forward = [] ∧ s.tracker.converts = [] := by
  unfold chooseUp
  split
  · split <;> exact .inl (startUp_upLaneFree _ _ _)
  · exact .inl (startUp_upLaneFree _ _ _)
  · exact .inl (startUp_upLaneFree _ _ _)
  · next hf hc => exact .inr ⟨rfl, hf, hc⟩

/-- A record frame that is offered can be built (R116, R117). -/
theorem exists_nextFrame (h : s.offersRecord = true) : ∃ f, s.delivery.nextFrame = some f := by
  obtain ⟨-, -, -, hsource⟩ := (offersRecord_iff s).mp h
  unfold DeliveryUnit.nextFrame
  cases hn : s.delivery.note with
  | some note => exact ⟨_, rfl⟩
  | none =>
    obtain ⟨q, rest, hq⟩ := List.exists_cons_of_ne_nil (hsource.resolve_right fun h => h hn)
    exact ⟨headFrame s.delivery q, by simp [hq]⟩

theorem grantRecord_downLaneFree (h : s.offersRecord = true) : (grantRecord s).downLaneFree = false := by
  obtain ⟨f, hf⟩ := exists_nextFrame h
  rw [grantRecord_of_some hf]
  exact startDown_downLaneFree _ _ _

/-- The downstream arbiter starts a frame or had none to choose from (R172). -/
theorem chooseDown_cases (s : State) :
    (chooseDown s).downLaneFree = false ∨ chooseDown s = s ∧ s.manager.responses = [] ∧ s.deliveryPort.passback = [] ∧
      s.notices.queue = [] ∧ s.offersRecord = false := by
  unfold chooseDown
  split
  · next h => exact .inl (grantRecord_downLaneFree h.1)
  · split
    · exact .inl (startDown_downLaneFree _ _ _)
    · split
      · exact .inl (startDown_downLaneFree _ _ _)
      · split
        · exact .inl (startDown_downLaneFree _ _ _)
        · split
          · next h => exact .inl (grantRecord_downLaneFree h)
          · next hr _ hp _ hn h => exact .inr ⟨rfl, hr, hp, hn, Bool.eq_false_iff.mpr h⟩

/-- After the upstream arbiter a lane that can start a frame leaves none waiting. -/
theorem arbitrateUp_settled (h : (arbitrateUp s).upLaneFree = true) :
    (arbitrateUp s).intake.forward = [] ∧ (arbitrateUp s).tracker.converts = [] := by
  rw [arbitrateUp_eq] at h ⊢
  split
  · next hfree =>
    rw [if_pos hfree] at h
    rcases chooseUp_cases (upChoice s) with hbusy | ⟨hsame, hf, hc⟩
    · simp [hbusy] at h
    · rw [hsame]
      exact ⟨hf, hc⟩
  · next hfree =>
    rw [if_neg hfree] at h
    exact absurd h hfree

/-- After the downstream arbiter a lane that can start a frame leaves none waiting. -/
theorem arbitrateDown_settled (h : (arbitrateDown s).downLaneFree = true) :
    (arbitrateDown s).manager.responses = [] ∧ (arbitrateDown s).deliveryPort.passback = [] ∧
      (arbitrateDown s).notices.queue = [] ∧ (arbitrateDown s).offersRecord = false := by
  rw [arbitrateDown_eq] at h ⊢
  split
  · next hfree =>
    rw [if_pos hfree] at h
    rcases chooseDown_cases (downChoice s) with hbusy | ⟨hsame, hnothing⟩
    · simp [hbusy] at h
    · rw [hsame]
      exact hnothing
  · next hfree =>
    rw [if_neg hfree] at h
    exact absurd h hfree

theorem settled_settle (s : State) : Settled (settle s) where
  up h := by
    have hfree : (arbitrateUp s).upLaneFree = true := by simpa [settle, State.upLaneFree] using h
    simpa [settle] using arbitrateUp_settled hfree
  down h := arbitrateDown_settled h

/-- The arbiters change nothing but the lanes, the turn counts and the queues frames wait in. -/
theorem settle_eq (s : State) :
    settle s =
      { s with
        tracker.converts := (settle s).tracker.converts
        manager.responses := (settle s).manager.responses
        notices := (settle s).notices
        intake := { (settle s).intake with link := s.intake.link }
        deliveryPort := { (settle s).deliveryPort with link := s.deliveryPort.link } } := by
  obtain ⟨hsweeper, htags, hinFlight, hlast, hcursor, hspacing, htrigger, hmemory, hcapture, hdelivery, hcounters, hparams,
    hnode, hrequests, hdeferred, hhold, hup, hdown, hclock, hlines, hchoices, hpending⟩ := settle_keeps s
  simp only [← hsweeper, ← htags, ← hinFlight, ← hlast, ← hcursor, ← hspacing, ← htrigger, ← hmemory, ← hcapture,
    ← hdelivery, ← hcounters, ← hparams, ← hnode, ← hrequests, ← hdeferred, ← hhold, ← hup, ← hdown, ← hclock, ← hlines,
    ← hchoices, ← hpending]

theorem startUp_eq (f : UpFrame) (turn : Nat) (s : State) :
    startUp f turn s =
      { s with intake.lane := some f, intake.cycles := 2 * ((f.raw s.manager.node).payload.length + 6),
               intake.turn := turn } := by
  rw [UpFrame.payload_length, Nat.add_comm]
  rfl

theorem startDown_eq (f : DownFrame) (turn : Nat) (s : State) :
    startDown f turn s =
      { s with deliveryPort.lane := some f, deliveryPort.cycles := 2 * ((f.raw s.manager.node).payload.length + 6),
               deliveryPort.turn := turn } := by
  rw [DownFrame.payload_length, Nat.add_comm]
  rfl

end

/-- Settles O4. -/
theorem arbitersActAfterEveryCommand : Obligations.ArbitersActAfterEveryCommand := by
  unfold Obligations.ArbitersActAfterEveryCommand
  refine ⟨fun s => ?_, fun c s t h => ?_, settle_eq, fun s k => ⟨fun f => startUp_eq f k s, fun f => startDown_eq f k s⟩⟩
  · simp only [← upLaneFree_iff, ← downLaneFree_iff]
    rw [settle, arbitrateDown_eq, arbitrateUp_eq]
    rfl
  · rw [exec_effect] at h
    cases h
    exact settled_settle _

/-! ## The fill of a sweep (R43) -/

/-- The fill of a sweep takes no tag, makes no entry and queues no frame; the cursor is at end. -/
theorem fillRest_tracker {s : State} (hlength : s.params.programLength ≤ 128)
    (hcursor : ∀ i, s.tracker.cursor = some i → i < s.params.programLength) :
    (fillRest s).tracker = { s.tracker with cursor := none } := by
  have hroom : s.params.programLength ≤ Config.programEntries + s.tracker.cursor.getD s.params.programLength :=
    Nat.le_trans hlength (Nat.le_add_right _ _)
  obtain ⟨-, htags, hinFlight, hlast, hspacing, hconverts, -⟩ := linkFill_keeps Config.programEntries s
  calc (fillRest s).tracker
    _ = (linkFill Config.programEntries s).tracker := by simp [fillRest]
    _ = { s.tracker with cursor := none } := by
      rw [← linkFill_cursor_none _ s hroom hcursor]
      simp only [← htags, ← hinFlight, ← hlast, ← hspacing, ← hconverts]

theorem linkFill_of_none {s : State} (n : Nat) (h : s.tracker.cursor = none) : linkFill n s = s := by
  cases n with
  | zero => rfl
  | succ n => simp only [linkFill, h]

/-- Settles O47. -/
theorem nothingIsLeftToIssue : Obligations.NothingIsLeftToIssue := by
  unfold Obligations.NothingIsLeftToIssue
  refine ⟨fun s hlength hcursor => readyToIssue_issueLoop (entriesLeft_of_inUse hlength hcursor),
    fun s hlength hcursor => fillRest_tracker hlength hcursor,
    fun s => ⟨rfl, fun n => ⟨fun i hi => ?_, linkFill_of_none n⟩⟩⟩
  simp only [linkFill, hi]

/-! ## Frames that read back (R142, R165, R177) -/

theorem destination_nodeByte (d s : BitVec 4) : (nodeByte d s).extractLsb' 4 4 = d := by
  revert d s
  decide

theorem source_nodeByte (d s : BitVec 4) : (nodeByte d s).extractLsb' 0 4 = s := by
  revert d s
  decide

/-- The two bytes of a 16-bit field, joined, are the field (R177). -/
theorem joined_bytes16 (v : BitVec 16) : v.extractLsb' 8 8 ++ v.extractLsb' 0 8 = v := by
  apply BitVec.eq_of_getLsbD_eq
  intro i hi
  simp only [BitVec.getLsbD_append, BitVec.getLsbD_extractLsb']
  by_cases h : i < 8
  · simp [h]
  · have hlt : i - 8 < 8 := by omega
    have hadd : 8 + (i - 8) = i := by omega
    simp [h, hlt, hadd]

/-- A frame the engine builds passes its own check when its length byte can hold its length (R164). -/
theorem buildFrame_checks {kind node : Byte} {payload : List Byte} (h : payload.length ≤ 255) :
    (buildFrame kind node payload).checks = true := by
  simp only [RawFrame.checks, Bool.and_eq_true, decide_eq_true_eq, beq_iff_eq]
  exact ⟨h, rfl⟩

/-- Reading the frame of a request of at most nine arguments gives that request back. -/
theorem requestOf_requestFrame {r : Request} (h : r.args.length ≤ 9) : requestOf (requestFrame r) = some r := by
  have hcount : r.args.length = (BitVec.ofNat 8 r.args.length).toNat := by
    rw [BitVec.toNat_ofNat, Nat.mod_eq_of_lt (by omega)]
  simp only [requestOf, requestFrame, buildFrame, wordsOf_flatMap]
  rw [if_pos ⟨hcount, h⟩, destination_nodeByte, source_nodeByte]

theorem requestFrame_checks {r : Request} (h : r.args.length ≤ 9) : (requestFrame r).checks = true :=
  buildFrame_checks (by simp only [List.length_cons, flatMap_bytes32_length]; omega)

theorem deliveryReception_requestFrame {r : Request} (lines : Lines) (h : r.args.length ≤ 9) :
    deliveryReception (requestFrame r) lines = .requestArrival r := by
  rw [deliveryReception, if_pos ⟨requestFrame_checks h, rfl⟩, requestOf_requestFrame h]

/-- A SAMPLE payload gives the fields of its layout, whatever its other flag bits are (R177). -/
theorem sampleOf_fields (f : SampleFrame) {flags : Byte} (hover : flags.getLsbD 0 = f.overRange)
    (hfault : flags.getLsbD 1 = f.unitFault) :
    sampleOf [f.tag, f.unit ++ f.channel, f.value.extractLsb' 8 8, f.value.extractLsb' 0 8, flags] = some f := by
  have hunit : (f.unit ++ f.channel).extractLsb' 4 4 = f.unit := destination_nodeByte _ _
  have hchannel : (f.unit ++ f.channel).extractLsb' 0 4 = f.channel := source_nodeByte _ _
  simp only [sampleOf, hunit, hchannel, joined_bytes16, hover, hfault]

theorem sampleOf_of_length {payload : List Byte} (h : payload.length ≠ 5) : sampleOf payload = none := by
  unfold sampleOf
  split
  · exact absurd rfl h
  · rfl

/-- A good frame of kind SAMPLE is received as the sample it holds (R165, R166). -/
theorem intakeReception_of_sample {f : RawFrame} {x : SampleFrame} (lines : Lines) (hgood : f.goodOnIntake = true)
    (hkind : f.kind = kindSample) (hx : sampleOf f.payload = some x) : intakeReception f lines = .sampleReceived x lines := by
  rw [intakeReception, if_pos hgood, if_pos hkind, hx]

/-- Settles O59. -/
theorem requestFramesReadBack : Obligations.RequestFramesReadBack := by
  unfold Obligations.RequestFramesReadBack
  refine ⟨fun r lines hwf => ?_, fun r => rfl, fun payload => sampleOf_of_length, fun f flags node lines hover hfault => ?_⟩
  · have hlen : r.args.length ≤ 9 := of_decide_eq_true hwf
    exact ⟨requestOf_requestFrame hlen, deliveryReception_requestFrame lines hlen⟩
  · intro payload
    have hsample : sampleOf payload = some f := sampleOf_fields f hover hfault
    have hgood : (buildFrame 2 node payload).goodOnIntake = true := by
      rw [RawFrame.goodOnIntake, buildFrame_checks (by simp [payload])]
      rfl
    exact ⟨hsample, intakeReception_of_sample lines hgood rfl hsample⟩

end Sys2Proof.Machine
end

section
/-! PROOFS. Every step keeps the two ports consistent (09): O8. -/

namespace Sys2Proof.Machine

/-! ## What a reception does to a link (R163) -/

/-- What an event makes of a link: what its table gives for a good or a bad reception, the alignment sequence or loss of
signal. -/
inductive LinkStep (l : Link) : Link → Prop
  | good : LinkStep l l.good
  | bad : LinkStep l l.bad
  | align : LinkStep l l.align
  | lost : LinkStep l l.lost

/-- Every event keeps the runs of a link in their ranges. -/
theorem LinkStep.linkInv {l l' : Link} (h : LinkStep l l') (hl : LinkInv l) : LinkInv l' := by
  obtain ⟨state, alignRun, badRun⟩ := l
  obtain ⟨halign, hbad, haligning, hup⟩ := hl
  cases h with
  | good =>
    rw [Link.good_eq]
    cases state with
    | aligning =>
      dsimp only
      split
      · exact ⟨by simp, by simp, by simp, by simp⟩
      · next hne =>
        have hlt : alignRun < 4 := haligning rfl
        have hne : alignRun ≠ 3 := hne
        exact ⟨by simp only; omega, hbad, fun _ => by simp only; omega, by simp⟩
    | down => exact ⟨halign, hbad, haligning, hup⟩
    | up => exact ⟨halign, by simp, by simp, by simp⟩
  | bad =>
    rw [Link.bad_eq]
    cases state with
    | up =>
      dsimp only
      split
      · exact ⟨halign, by simp, by simp, by simp⟩
      · next hne =>
        have hlt : badRun < 8 := hup rfl
        have hne : badRun ≠ 7 := hne
        exact ⟨halign, by simp only; omega, by simp, fun _ => by simp only; omega⟩
    | down => exact ⟨halign, hbad, haligning, hup⟩
    | aligning => exact ⟨by simp, hbad, by simp, by simp⟩
  | align =>
    cases state with
    | down => exact ⟨by simp [Link.align], hbad, by simp [Link.align], by simp [Link.align]⟩
    | aligning | up => exact ⟨halign, hbad, haligning, hup⟩
  | lost => exact ⟨halign, hbad, by simp [Link.lost], by simp [Link.lost]⟩

/-- A link leaves UP only for DOWN. -/
theorem LinkStep.down_of_up {l l' : Link} (h : LinkStep l l') (hup : l.state = .up) : l'.state = .up ∨ l'.state = .down := by
  cases h with
  | good => exact .inl (by simp [Link.good, hup])
  | bad =>
    rw [Link.bad, hup]
    dsimp only
    split
    · exact .inr rfl
    · exact .inl rfl
  | align => exact .inl (by simp [Link.align, hup])
  | lost => exact .inr rfl

/-- What a link's step keeps, and what is then handed on keeps, a good frame keeps. -/
theorem receiveGoodFrame_of {P : State → Prop} {p : Port} {handOn : State → State} {s : State}
    (hlink : P (setLink p (s.link p).good s))
    (hand : (s.link p).state = .up → P (handOn (setLink p (s.link p).good s))) : P (receiveGoodFrame p handOn s) := by
  unfold receiveGoodFrame goodReception
  split
  · next hup => exact hand hup
  · exact hlink

/-! ## One port's part of the invariant -/

/-- The intake port's part of the invariant of the ports. -/
structure IntakeInv (p : IntakePort) : Prop where
  link : LinkInv p.link
  quiet : p.link.state ≠ .up → p.lane = none ∧ p.forward = [] ∧ p.turn = 0
  turn : p.turn ≤ 4

/-- The delivery port's part of the invariant of the ports. -/
structure DeliveryPortInv (p : DeliveryPort) : Prop where
  link : LinkInv p.link
  quiet : p.link.state ≠ .up → p.lane = none ∧ p.turn = 0
  turn : p.turn ≤ 3

theorem portsInv_iff (s : State) : PortsInv s ↔ IntakeInv s.intake ∧ DeliveryPortInv s.deliveryPort :=
  ⟨fun ⟨h1, h2, h3, h4, h5, h6⟩ => ⟨⟨h1, h3, h5⟩, ⟨h2, h4, h6⟩⟩, fun ⟨⟨h1, h3, h5⟩, ⟨h2, h4, h6⟩⟩ => ⟨h1, h2, h3, h4, h5, h6⟩⟩

theorem PortsInv.of_ports {s t : State} (h : PortsInv s) (hintake : t.intake = s.intake)
    (hdelivery : t.deliveryPort = s.deliveryPort) : PortsInv t := by
  rw [portsInv_iff, hintake, hdelivery]
  exact (portsInv_iff s).mp h

/-- A delivery port whose turn count stands or returns to 0 keeps its part. -/
theorem DeliveryPortInv.of_turn {p p' : DeliveryPort} (h : DeliveryPortInv p) (hlink : p'.link = p.link)
    (hlane : p'.lane = p.lane ∨ p'.lane = none) (hturn : p'.turn = p.turn ∨ p'.turn = 0) : DeliveryPortInv p' := by
  obtain ⟨hl, hquiet, hle⟩ := h
  refine ⟨hlink ▸ hl, fun hup => ?_, ?_⟩
  · obtain ⟨hn, hz⟩ := hquiet (hlink ▸ hup)
    exact ⟨hlane.elim (·.trans hn) id, hturn.elim (·.trans hz) id⟩
  · rcases hturn with ht | ht <;> omega

/-! ## The arbiters (R168, R171, R172) -/

theorem IntakeInv.upChoice {s : State} (h : IntakeInv s.intake) : IntakeInv (upChoice s).intake := by
  obtain ⟨hl, hquiet, hle⟩ := h
  unfold Machine.upChoice
  split
  · exact ⟨hl, fun hup => ⟨(hquiet hup).1, (hquiet hup).2.1, rfl⟩, Nat.zero_le _⟩
  · exact ⟨hl, hquiet, hle⟩

/-- A frame starts only on an UP link, with the turn count in its range. -/
theorem intakeInv_chooseUp {s : State} (h : IntakeInv s.intake) (hfree : s.upLaneFree = true) :
    IntakeInv (chooseUp s).intake := by
  obtain ⟨hup, -, -⟩ := (upLaneFree_iff s).mp hfree
  obtain ⟨hl, hquiet, hle⟩ := h
  have busy {f : UpFrame} {turn : Nat} {u : State} (hu : u.intake.link = s.intake.link) (ht : turn ≤ 4) :
      IntakeInv (startUp f turn u).intake := ⟨hu ▸ hl, fun hn => absurd (hu ▸ hup) hn, ht⟩
  unfold chooseUp
  split
  · split
    · exact busy rfl (Nat.zero_le _)
    · next hne => exact busy rfl (Nat.lt_of_le_of_ne hle hne)
  · exact busy rfl (Nat.zero_le _)
  · exact busy rfl (Nat.zero_le _)
  · exact ⟨hl, hquiet, hle⟩

theorem intakeInv_arbitrateUp {s : State} (h : IntakeInv s.intake) : IntakeInv (arbitrateUp s).intake := by
  rw [arbitrateUp_eq]
  split
  · next hfree => exact intakeInv_chooseUp h.upChoice hfree
  · exact h.upChoice

theorem DeliveryPortInv.downChoice {s : State} (h : DeliveryPortInv s.deliveryPort) :
    DeliveryPortInv (downChoice s).deliveryPort := by
  unfold Machine.downChoice
  split
  · exact h
  · exact h.of_turn rfl (.inl rfl) (.inr rfl)

/-- A frame starts only on an UP link; a record frame's turn has come at 3, so the count stays in its range. -/
theorem deliveryPortInv_chooseDown {s : State} (h : DeliveryPortInv s.deliveryPort) (hfree : s.downLaneFree = true) :
    DeliveryPortInv (chooseDown s).deliveryPort := by
  obtain ⟨hup, -, -⟩ := (downLaneFree_iff s).mp hfree
  have hkept := h
  obtain ⟨hl, hquiet, hle⟩ := h
  have busy {f : DownFrame} {turn : Nat} {u : State} (hu : u.deliveryPort.link = s.deliveryPort.link) (ht : turn ≤ 3) :
      DeliveryPortInv (startDown f turn u).deliveryPort := ⟨hu ▸ hl, fun hn => absurd (hu ▸ hup) hn, ht⟩
  have granted : DeliveryPortInv (grantRecord s).deliveryPort := by
    unfold grantRecord
    split
    · exact busy rfl (Nat.zero_le _)
    · exact hkept
  unfold chooseDown
  split
  · exact granted
  · next hturn =>
    have hother : s.turnAfterOther ≤ 3 := by
      unfold State.turnAfterOther
      split
      · next ho => exact Nat.lt_of_le_of_ne hle fun ht => hturn ⟨ho, ht⟩
      · exact hle
    split
    · exact busy rfl hother
    · split
      · exact busy rfl hother
      · split
        · exact busy rfl hother
        · split
          · exact granted
          · exact hkept

theorem portsInv_settle {s : State} (h : PortsInv s) : PortsInv (settle s) := by
  obtain ⟨hi, hd⟩ := (portsInv_iff s).mp h
  refine (portsInv_iff _).mpr ⟨?_, ?_⟩
  · rw [settle, show (arbitrateDown (arbitrateUp s)).intake = (arbitrateUp s).intake by simp]
    exact intakeInv_arbitrateUp hi
  · have hd : DeliveryPortInv (arbitrateUp s).deliveryPort := by simpa using hd
    rw [settle, arbitrateDown_eq]
    split
    · next hfree => exact deliveryPortInv_chooseDown hd.downChoice hfree
    · exact hd.downChoice

/-! ## The links (R163, R174, R175) -/

theorem upFrameEnded_lane (s : State) : (upFrameEnded s).intake.lane = none := by
  unfold upFrameEnded
  split
  · rfl
  · rfl
  · assumption

/-- A drop of the intake link leaves its port empty (R174). -/
theorem intakeDropped_intake (s : State) :
    (intakeDropped s).intake.lane = none ∧ (intakeDropped s).intake.forward = [] ∧ (intakeDropped s).intake.turn = 0 := by
  simp [intakeDropped, upFrameEnded_lane]

theorem intakeInv_setIntakeLink {s : State} {l : Link} (h : IntakeInv s.intake) (hl : LinkStep s.intake.link l) :
    IntakeInv (setIntakeLink l s).intake := by
  have hlink : (setIntakeLink l s).intake.link = l := setLink_link .intake .intake l s
  by_cases hdrop : s.intake.link.state = .up ∧ l.state = .down
  · rw [setIntakeLink_of_drop hdrop.1 hdrop.2] at hlink ⊢
    obtain ⟨hlane, hforward, hturn⟩ := intakeDropped_intake { s with intake.link := l }
    exact ⟨by rw [hlink]; exact hl.linkInv h.link, fun _ => ⟨hlane, hforward, hturn⟩, hturn ▸ Nat.zero_le _⟩
  · have hport : (setIntakeLink l s).intake = { s.intake with link := l } := by
      rw [setIntakeLink_of_no_drop hdrop]
      split
      · simp
      · rfl
    rw [hport]
    refine ⟨hl.linkInv h.link, fun hne => h.quiet fun hup => ?_, h.turn⟩
    exact (hl.down_of_up hup).elim hne fun hdown => hdrop ⟨hup, hdown⟩

theorem completionTests_turn (w : WindowId) (last : Bool) (s : State) :
    (completionTests w last s).deliveryPort.turn = s.deliveryPort.turn ∨
      (completionTests w last s).deliveryPort.turn = 0 := by
  rw [completionTests_of_window last rfl]
  split
  · exact .inr rfl
  · exact .inl rfl

theorem recordFrameEnded_turn (f : RecordFrame) (s : State) :
    (recordFrameEnded f s).deliveryPort.turn = s.deliveryPort.turn ∨ (recordFrameEnded f s).deliveryPort.turn = 0 := by
  unfold recordFrameEnded abandonedFrameEnded payloadFrameEnded
  split
  · exact completionTests_turn _ _ _
  · simpa using completionTests_turn f.window f.last (advanceHead f (releaseCells f.payload.length
      (putWindow f.window { s.delivery.window f.window with
        filled := (s.delivery.window f.window).filled + f.payload.length } s)))

theorem downFrameEnded_port (s : State) :
    (downFrameEnded s).deliveryPort.lane = none ∧
      ((downFrameEnded s).deliveryPort.turn = s.deliveryPort.turn ∨ (downFrameEnded s).deliveryPort.turn = 0) := by
  match hf : s.frameUnderWay with
  | some f =>
    rw [downFrameEnded_of_record hf]
    exact ⟨by simp, recordFrameEnded_turn f _⟩
  | none =>
    rw [downFrameEnded_of_other hf]
    exact ⟨rfl, .inl rfl⟩

/-- The end of a frame on the delivery lane keeps its port's part. -/
theorem deliveryPortInv_downFrameEnded {s : State} (h : DeliveryPortInv s.deliveryPort) :
    DeliveryPortInv (downFrameEnded s).deliveryPort :=
  h.of_turn (by simp) (.inr (downFrameEnded_port s).1) (downFrameEnded_port s).2

theorem deliveryPortInv_setDeliveryLink {s : State} {l : Link} (h : DeliveryPortInv s.deliveryPort)
    (hl : LinkStep s.deliveryPort.link l) : DeliveryPortInv (setDeliveryLink l s).deliveryPort := by
  by_cases hdrop : s.deliveryPort.link.state = .up ∧ l.state = .down
  · have hlink : (setDeliveryLink l s).deliveryPort.link = l := setLink_link .delivery .delivery l s
    rw [setDeliveryLink_of_drop hdrop.1 hdrop.2] at hlink ⊢
    exact ⟨by rw [hlink]; exact hl.linkInv h.link, fun _ => ⟨(downFrameEnded_port _).1, rfl⟩, Nat.zero_le _⟩
  · rw [setDeliveryLink_of_no_drop hdrop]
    refine ⟨hl.linkInv h.link, fun hne => h.quiet fun hup => ?_, h.turn⟩
    exact (hl.down_of_up hup).elim hne fun hdown => hdrop ⟨hup, hdown⟩

theorem portsInv_setLink {s : State} {p : Port} {l : Link} (h : PortsInv s) (hl : LinkStep (s.link p) l) :
    PortsInv (setLink p l s) := by
  obtain ⟨hi, hd⟩ := (portsInv_iff s).mp h
  rw [portsInv_iff]
  cases p with
  | intake => exact ⟨intakeInv_setIntakeLink hi hl, by simpa [setLink] using hd⟩
  | delivery => exact ⟨by simpa [setLink] using hi, deliveryPortInv_setDeliveryLink hd hl⟩

/-! ## The commands that touch a port -/

theorem portsInv_receiveBadFrame {s : State} (p : Port) (h : PortsInv s) : PortsInv (receiveBadFrame p s) := by
  rw [receiveBadFrame_eq]
  split
  · exact portsInv_setLink (h.of_ports (by simp) (by simp)) (by rw [countBadFrame_link]; exact .bad)
  · exact portsInv_setLink h .bad

/-- A request joins the forward buffer only on an UP link (R146). -/
theorem portsInv_classifyArrival {s : State} (r : Request) (h : PortsInv s) : PortsInv (classifyArrival r s) := by
  obtain ⟨hi, hd⟩ := (portsInv_iff s).mp h
  have forwarded (next : State → State) (hnext : ∀ u, (next u).intake = u.intake ∧ (next u).deliveryPort = u.deliveryPort) :
      PortsInv (forwardArrival r next s) := by
    unfold forwardArrival
    split
    · exact h.of_ports (by simp) (by simp)
    · next hup =>
      split
      · exact h.of_ports (by simp) (by simp)
      · rw [portsInv_iff, (hnext _).1, (hnext _).2]
        exact ⟨⟨hi.link, fun hn => absurd hn hup, hi.turn⟩, hd⟩
  unfold classifyArrival
  split
  · exact h.of_ports (by simp) (by simp)
  · split
    · exact forwarded _ fun u => by simp
    · exact forwarded _ fun u => ⟨rfl, rfl⟩

theorem portsInv_receiveRequest {s : State} (r : Request) (h : PortsInv s) : PortsInv (receiveRequest r s) := by
  have hlink := portsInv_setLink (p := .delivery) h .good
  unfold receiveRequest
  split
  · exact receiveGoodFrame_of hlink fun _ => portsInv_classifyArrival r hlink
  · exact portsInv_receiveBadFrame _ h

theorem portsInv_receiveSample {s : State} (f : SampleFrame) (h : PortsInv s) : PortsInv (receiveSample f s) := by
  have hlink := portsInv_setLink (p := .intake) h .good
  exact receiveGoodFrame_of hlink fun _ => hlink.of_ports (by simp) (by simp)

/-- A passback frame touches nothing of its port but the buffer. -/
theorem portsInv_joinPassback {s : State} (f : RawFrame) (h : PortsInv s) : PortsInv (joinPassback f s) := by
  obtain ⟨hi, hd⟩ := (portsInv_iff s).mp h
  unfold joinPassback
  split
  · exact (portsInv_iff _).mpr ⟨hi, hd.of_turn rfl (.inl rfl) (.inl rfl)⟩
  · exact h.of_ports rfl rfl

theorem portsInv_receiveIntakeFrame {s : State} (f : RawFrame) (h : PortsInv s) : PortsInv (receiveIntakeFrame f s) := by
  have hlink := portsInv_setLink (p := .intake) h .good
  unfold receiveIntakeFrame
  split
  · split
    · split
      · exact portsInv_receiveSample _ h
      · exact portsInv_receiveBadFrame _ h
    · exact receiveGoodFrame_of hlink fun _ => portsInv_joinPassback f hlink
  · exact portsInv_receiveBadFrame _ h

theorem portsInv_frameWhileAligning {s : State} (p : Port) (good : Bool) (h : PortsInv s) :
    PortsInv (frameWhileAligning p good s) := by
  unfold frameWhileAligning
  split
  · cases good with
    | true => exact portsInv_setLink h .good
    | false => exact portsInv_setLink h .bad
  · exact h

theorem portsInv_upFrameEnded {s : State} (h : PortsInv s) : PortsInv (upFrameEnded s) := by
  obtain ⟨hi, hd⟩ := (portsInv_iff s).mp h
  refine (portsInv_iff _).mpr ⟨⟨by simpa using hi.link, fun hup => ?_, by simpa using hi.turn⟩, by simpa using hd⟩
  obtain ⟨-, hforward, hturn⟩ := hi.quiet (by simpa using hup)
  exact ⟨upFrameEnded_lane s, by simpa using hforward, by simpa using hturn⟩

theorem portsInv_downFrameEnded {s : State} (h : PortsInv s) : PortsInv (downFrameEnded s) := by
  obtain ⟨hi, hd⟩ := (portsInv_iff s).mp h
  exact (portsInv_iff _).mpr ⟨by simpa using hi, deliveryPortInv_downFrameEnded hd⟩

theorem portsInv_convertEnds {s : State} (h : PortsInv s) : PortsInv (convertEnds s) := by
  unfold convertEnds
  split
  · exact portsInv_upFrameEnded h
  all_goals exact h

theorem portsInv_recordEnds {s : State} (h : PortsInv s) : PortsInv (recordEnds s) := by
  unfold recordEnds
  split
  · exact portsInv_downFrameEnded h
  all_goals exact h

theorem portsInv_otherFrameEnds {s : State} (p : Port) (h : PortsInv s) : PortsInv (otherFrameEnds p s) := by
  unfold otherFrameEnds
  cases p with
  | intake =>
    dsimp only
    split
    · exact portsInv_upFrameEnded h
    all_goals exact h
  | delivery =>
    dsimp only
    split
    · exact portsInv_downFrameEnded h
    · exact portsInv_downFrameEnded h
    · exact portsInv_downFrameEnded h
    all_goals exact h

/-- Of the requests only CLOSE_WINDOW touches a port: a completion takes the turn count back to 0. -/
theorem portsInv_closeWindowBody {s : State} (r : Request) (h : PortsInv s) : PortsInv (closeWindowBody r s) := by
  obtain ⟨hi, hd⟩ := (portsInv_iff s).mp h
  have hturn (w : WindowId) : (closeOpenWindow w s).deliveryPort.turn = s.deliveryPort.turn ∨
      (closeOpenWindow w s).deliveryPort.turn = 0 := by
    unfold closeOpenWindow
    split
    · split
      · exact .inl rfl
      · exact .inr rfl
    · exact .inl (by simp)
  unfold closeWindowBody
  split
  · split
    · split
      · exact (portsInv_iff _).mpr ⟨by simpa using hi, hd.of_turn (by simp) (by simp) (by simpa using hturn _)⟩
      · exact h.of_ports rfl rfl
    · exact h.of_ports rfl rfl
  · exact h.of_ports rfl rfl

theorem portsInv_effect (c : Instr) {s : State} (h : PortsInv s) : PortsInv (effect c s) := by
  cases c with
  | closeWindow => exact executeFront_of h fun r _ => portsInv_closeWindowBody r (h.of_ports (by simp) (by simp))
  | echo | readStatus | setParameter | getParameter | writeProgramEntry | readProgramEntry | startRun | stopRun
  | writeCondition | readCondition | forceTrigger | arm | disarm | clearHalt | openWindow | discardRecord
  | readCounters | resetEngine =>
    exact h.of_ports (executeFront_frame (·.intake) (by simp) (by simp))
      (executeFront_frame (·.deliveryPort) (by simp) (by simp))
  | requestArrival r => exact portsInv_receiveRequest r h
  | sampleReceived f lines => exact portsInv_receiveSample f (h.of_ports rfl rfl)
  | passbackReceived f => exact portsInv_receiveIntakeFrame f h
  | badFrame p lines => exact portsInv_receiveBadFrame p (h.of_ports rfl rfl)
  | idleAlignmentSequence p => exact portsInv_setLink h .align
  | goodIdleGroup p => exact portsInv_setLink h .good
  | malformedIdleGroup p lines => exact portsInv_setLink (s := seeLines lines s) (h.of_ports rfl rfl) .bad
  | lossOfSignal p lines => exact portsInv_setLink (s := seeLines lines s) (h.of_ports rfl rfl) (by cases p <;> exact .lost)
  | convertSent => exact portsInv_convertEnds h
  | recordFrameEnd => exact portsInv_recordEnds h
  | frameTransmissionEnd p => exact portsInv_otherFrameEnds p h
  | hardReset straps level => exact (inv_afterReset (nodeOfStraps straps) level).ports.of_ports rfl rfl
  | frameReceivedWhileAligning p good => exact portsInv_frameWhileAligning p good h
  | unknownRequestKind | pacerExpiry | sweepStartEdge | spacingTimerExpiry | requestTimeout | quarantineExpiry
  | trigoutPulseExpiry | resetEffects => exact h.of_ports (by simp [effect]) (by simp [effect])

theorem portsInv_idle {s : State} (h : PortsInv s) : PortsInv (idle s) := by
  obtain ⟨h1, h2, h3, h4, h5, h6⟩ := h
  exact ⟨by simpa using h1, by simpa using h2, by simpa using h3, by simpa using h4, by simpa using h5, by simpa using h6⟩

/-- Settles O8. -/
theorem portsStayConsistent : Obligations.PortsStayConsistent := by
  unfold Obligations.PortsStayConsistent
  exact step_keeps (P := PortsInv) (fun _ _ h => h.of_ports rfl rfl) (fun c _ => portsInv_effect c)
    (fun _ => portsInv_settle) (fun _ => portsInv_idle)

end Sys2Proof.Machine
end

section
/-! PROOFS. Every step keeps the queues and buffers within their sizes (07, 08, 09): O7. -/

namespace Sys2Proof.Machine

/-! ## The parts of the invariant -/

/-- The Notice Queue within its size, and drops only behind a full queue (R130 to R132). -/
structure NoticesInv (q : NoticeQueue) : Prop where
  size : q.queue.length ≤ 8
  dropped : q.droppedBefore ≤ 255
  behindFull : 0 < q.droppedBefore → q.queue.length = 8

/-- The Request Queue and the total within their sizes, the total at most `n`; the hold stands while a RESET_ENGINE waits. -/
structure ManagerBound (n : Nat) (m : ManagementController) : Prop where
  requests : m.requests.length ≤ 8
  total : m.total ≤ n
  hold : m.resetHold = m.held

theorem queuesInv_iff (s : State) :
    QueuesInv s ↔ ManagerBound 12 s.manager ∧ NoticesInv s.notices ∧ s.intake.forward.length ≤ 4 ∧
      s.deliveryPort.passback.length ≤ 4 :=
  ⟨fun ⟨h1, h2, h3, h4, h5, h6, h7, h8⟩ => ⟨⟨h1, h2, h3⟩, ⟨h4, h5, h6⟩, h7, h8⟩,
    fun ⟨⟨h1, h2, h3⟩, ⟨h4, h5, h6⟩, h7, h8⟩ => ⟨h1, h2, h3, h4, h5, h6, h7, h8⟩⟩

/-! ## Notices -/

section
variable {s : State}

/-- A notice that finds room joins the queue; behind a full one it is only counted. -/
@[simp] theorem noticesInv_postNotice (n : Notice) (h : NoticesInv s.notices) : NoticesInv (postNotice n s).notices := by
  obtain ⟨hsize, hdropped, hfull⟩ := h
  by_cases hroom : s.notices.queue.length < 8
  · rw [postNotice_of_room n hroom]
    refine ⟨by simp only [List.length_append, List.length_singleton]; omega, hdropped, fun hpos => ?_⟩
    have := hfull hpos
    omega
  · rw [postNotice_of_full n (Nat.le_of_not_lt hroom)]
    exact ⟨hsize, by simp only; omega, fun _ => by simp only; omega⟩

@[simp] theorem noticesInv_endRun (cause : EndCause) (h : NoticesInv s.notices) : NoticesInv (endRun cause s).notices := by
  simp [endRun, h]

@[simp] theorem noticesInv_haltStopDemand (h : NoticesInv s.notices) : NoticesInv (haltStopDemand s).notices := by
  unfold haltStopDemand
  (repeat' split) <;> simp [beginStopping, h]

@[simp] theorem noticesInv_enterHalted (cause : HaltCause) (h : NoticesInv s.notices) :
    NoticesInv (enterHalted cause s).notices := by simp [enterHalted, h]

@[simp] theorem noticesInv_rearm (h : NoticesInv s.notices) : NoticesInv (rearm s).notices := by
  unfold rearm
  (repeat' split) <;> simp [h]

@[simp] theorem noticesInv_quotaPath (h : NoticesInv s.notices) : NoticesInv (quotaPath s).notices := by
  unfold quotaPath
  (repeat' split) <;> simp [h]

@[simp] theorem noticesInv_closeRecord (truncated cut : Bool) (h : NoticesInv s.notices) :
    NoticesInv (closeRecord truncated cut s).notices := by
  unfold closeRecord
  split <;> simp [h]

@[simp] theorem noticesInv_closeNormally (h : NoticesInv s.notices) : NoticesInv (closeNormally s).notices := by
  simp [closeNormally, h]

@[simp] theorem noticesInv_closeTruncated (h : NoticesInv s.notices) : NoticesInv (closeTruncated s).notices := by
  simp [closeTruncated, h]

@[simp] theorem noticesInv_runEndReport (h : NoticesInv s.notices) : NoticesInv (runEndReport s).notices := by
  unfold runEndReport
  split <;> simp [h]

@[simp] theorem noticesInv_openRecord (cause : Cause) (number : Word) (h : NoticesInv s.notices) :
    NoticesInv (openRecord cause number s).notices := by simp [openRecord, h]

@[simp] theorem noticesInv_postAppend (h : NoticesInv s.notices) : NoticesInv (postAppend s).notices := by
  unfold postAppend
  dsimp only
  (repeat' split) <;> simp [h]

@[simp] theorem noticesInv_receiveCompleted (v : Verdict) (number : Word) (h : NoticesInv s.notices) :
    NoticesInv (receiveCompleted v number s).notices := by
  unfold receiveCompleted
  (repeat' split) <;> simp [h]

@[simp] theorem noticesInv_blockRequest (r : SweepRecord) (h : NoticesInv s.notices) :
    NoticesInv (blockRequest r s).notices := by
  unfold blockRequest
  dsimp only
  (repeat' split) <;> simp [h]

@[simp] theorem noticesInv_judgeSweep (number : Word) (h : NoticesInv s.notices) :
    NoticesInv (judgeSweep number s).notices := by
  unfold judgeSweep
  dsimp only
  split <;> simp [h]

@[simp] theorem noticesInv_runAfterCompletion (h : NoticesInv s.notices) : NoticesInv (runAfterCompletion s).notices := by
  unfold runAfterCompletion
  (repeat' split) <;> simp [h]

@[simp] theorem noticesInv_sweepCompletion (r : SweepRecord) (h : NoticesInv s.notices) :
    NoticesInv (sweepCompletion r s).notices := by
  unfold sweepCompletion
  dsimp only
  have hrun : NoticesInv (runAfterCompletion (judgeSweep r.number { s with sweeper.sweep := none })).notices := by
    simp [h]
  split
  · exact noticesInv_runEndReport hrun
  · exact hrun

@[simp] theorem noticesInv_checkCompletion (h : NoticesInv s.notices) : NoticesInv (checkCompletion s).notices := by
  unfold checkCompletion
  (repeat' split) <;> simp [h]

@[simp] theorem noticesInv_completeRequest (e : InFlight) (content : Content) (tagAfter : TagState)
    (h : NoticesInv s.notices) : NoticesInv (completeRequest e content tagAfter s).notices := by
  simp [completeRequest, h]

@[simp] theorem noticesInv_fillRest (h : NoticesInv s.notices) : NoticesInv (fillRest s).notices := by
  simp [fillRest, h]

@[simp] theorem noticesInv_beginIssuing (h : NoticesInv s.notices) : NoticesInv (beginIssuing s).notices := by
  unfold beginIssuing
  dsimp only
  split <;> simp [h]

@[simp] theorem noticesInv_sweepStart (h : NoticesInv s.notices) : NoticesInv (sweepStart s).notices := by
  simp [sweepStart, h]

@[simp] theorem noticesInv_finishWindow (w : WindowId) (early : Bool) (h : NoticesInv s.notices) :
    NoticesInv (finishWindow w early s).notices := by simp [finishWindow, h]

@[simp] theorem noticesInv_completeWindow (w : WindowId) (early : Bool) (h : NoticesInv s.notices) :
    NoticesInv (completeWindow w early s).notices := by simp [completeWindow, h]

@[simp] theorem noticesInv_completionTests (w : WindowId) (last : Bool) (h : NoticesInv s.notices) :
    NoticesInv (completionTests w last s).notices := by
  unfold completionTests
  dsimp only
  split <;> simp [h]

@[simp] theorem noticesInv_recordFrameEnded (f : RecordFrame) (h : NoticesInv s.notices) :
    NoticesInv (recordFrameEnded f s).notices := by
  unfold recordFrameEnded
  split <;> simp [abandonedFrameEnded, payloadFrameEnded, h]

@[simp] theorem noticesInv_downFrameEnded (h : NoticesInv s.notices) : NoticesInv (downFrameEnded s).notices := by
  unfold downFrameEnded
  split <;> simp [h]

@[simp] theorem noticesInv_setLink (p : Port) (l : Link) (h : NoticesInv s.notices) :
    NoticesInv (setLink p l s).notices := by
  cases p with
  | intake =>
    simp only [setLink, setIntakeLink]
    (repeat' split) <;> simp [intakeDropped, h]
  | delivery =>
    simp only [setLink, setDeliveryLink]
    split <;> simp [deliveryDropped, h]

@[simp] theorem noticesInv_goodReception (p : Port) (h : NoticesInv s.notices) : NoticesInv (goodReception p s).notices := by
  simp [goodReception, h]

@[simp] theorem noticesInv_badReception (p : Port) (h : NoticesInv s.notices) : NoticesInv (badReception p s).notices := by
  simp [badReception, h]

@[simp] theorem noticesInv_receiveBadFrame (p : Port) (h : NoticesInv s.notices) :
    NoticesInv (receiveBadFrame p s).notices := by
  unfold receiveBadFrame
  split <;> simp [h]

@[simp] theorem noticesInv_matchReply (f : SampleFrame) (h : NoticesInv s.notices) :
    NoticesInv (matchReply f s).notices := by
  unfold matchReply
  (repeat' split) <;> simp [timedReply, h]
  split <;> simp [h]

@[simp] theorem noticesInv_receiveSample (f : SampleFrame) (h : NoticesInv s.notices) :
    NoticesInv (receiveSample f s).notices :=
  receiveGoodFrame_of (P := fun u => NoticesInv u.notices) (by simp [h]) (fun _ => by simp [h])

@[simp] theorem noticesInv_receiveIntakeFrame (f : RawFrame) (h : NoticesInv s.notices) :
    NoticesInv (receiveIntakeFrame f s).notices := by
  unfold receiveIntakeFrame
  split
  · split
    · split <;> simp [h]
    · exact receiveGoodFrame_of (P := fun u => NoticesInv u.notices) (by simp [h]) (fun _ => by simp [h])
  · simp [h]

@[simp] theorem noticesInv_receiveRequest (r : Request) (h : NoticesInv s.notices) :
    NoticesInv (receiveRequest r s).notices := by
  unfold receiveRequest
  split
  · exact receiveGoodFrame_of (P := fun u => NoticesInv u.notices) (by simp [h]) (fun _ => by simp [h])
  · simp [h]

@[simp] theorem noticesInv_pacerExpires (h : NoticesInv s.notices) : NoticesInv (pacerExpires s).notices := by
  unfold pacerExpires pacerEvent
  (repeat' split) <;> simp [h]

@[simp] theorem noticesInv_startLineLevel (level : Bool) (h : NoticesInv s.notices) :
    NoticesInv (startLineLevel level s).notices := by
  unfold startLineLevel startEdgeSeen
  dsimp only
  (repeat' split) <;> simp [h]

@[simp] theorem noticesInv_requestTimesOut (t : Nat) (h : NoticesInv s.notices) :
    NoticesInv (requestTimesOut t s).notices := by
  unfold requestTimesOut
  (repeat' split) <;> simp [h]

@[simp] theorem noticesInv_frameWhileAligning (p : Port) (good : Bool) (h : NoticesInv s.notices) :
    NoticesInv (frameWhileAligning p good s).notices := by
  unfold frameWhileAligning
  (repeat' split) <;> simp [h]

theorem noticesInv_startRunBody (lines : Lines) (r : Request) (h : NoticesInv s.notices) :
    NoticesInv (startRunBody lines r s).notices := by
  unfold startRunBody enterRun
  dsimp only
  (repeat' split) <;> simp [h]

theorem noticesInv_stopRunBody (r : Request) (h : NoticesInv s.notices) : NoticesInv (stopRunBody r s).notices := by
  unfold stopRunBody deferStop
  (repeat' split) <;> simp [h]

theorem noticesInv_disarmBody (r : Request) (h : NoticesInv s.notices) : NoticesInv (disarmBody r s).notices := by
  unfold disarmBody disarmEffects
  dsimp only
  (repeat' split) <;> simp [h]

theorem noticesInv_closeWindowBody (r : Request) (h : NoticesInv s.notices) :
    NoticesInv (closeWindowBody r s).notices := by
  unfold closeWindowBody closeOpenWindow
  (repeat' split) <;> simp [h]

/-- Every command posts what it posts within the rules of the Notice Queue. -/
theorem noticesInv_effect (c : Instr) (h : NoticesInv s.notices) : NoticesInv (effect c s).notices := by
  have executed {kind : Byte} {body : Request → State → State}
      (hbody : ∀ r {u : State}, NoticesInv u.notices → NoticesInv (body r u).notices) :
      NoticesInv (executeFront kind body s).notices :=
    executeFront_of (P := fun u => NoticesInv u.notices) h fun r _ => hbody r (by simpa using h)
  cases c with
  | startRun lines => exact executed fun r _ => noticesInv_startRunBody lines r
  | stopRun => exact executed fun r _ => noticesInv_stopRunBody r
  | disarm => exact executed fun r _ => noticesInv_disarmBody r
  | closeWindow => exact executed fun r _ => noticesInv_closeWindowBody r
  | echo | readStatus | setParameter | getParameter | writeProgramEntry | readProgramEntry | writeCondition
  | readCondition | forceTrigger | arm | clearHalt | openWindow | discardRecord | readCounters | resetEngine =>
    exact executed fun r u hu => by simpa using hu
  | resetEffects =>
    simp only [effect, resetCompletes]
    (repeat' split)
    · exact ⟨Nat.zero_le _, Nat.zero_le _, fun hpos => absurd hpos (Nat.lt_irrefl 0)⟩
    all_goals exact h
  | hardReset => exact ⟨Nat.zero_le _, Nat.zero_le _, fun hpos => absurd hpos (Nat.lt_irrefl 0)⟩
  | recordFrameEnd =>
    simp only [effect, recordEnds]
    split <;> simp [h]
  | frameTransmissionEnd p =>
    simp only [effect, otherFrameEnds]
    (repeat' split) <;> simp [h]
  | _ => simp [effect, h]

end

/-! ## The total (R144) -/

/-- The total and the hold of the queue, read off the parts they are made of. -/
theorem ManagementController.total_held_of {m m' : ManagementController} (hrequests : m'.requests = m.requests)
    (hdeferred : m'.deferred = m.deferred) (hresponses : m'.responses = m.responses) :
    m'.total = m.total ∧ m'.held = m.held := by
  simp [ManagementController.total, ManagementController.held, hrequests, hdeferred, hresponses]

section
variable (s : State)

/-- A STOP_RUN answered from the slot keeps the total: its response takes its place (R144, R151). -/
@[simp] theorem answerDeferredStop_total_held :
    (answerDeferredStop s).manager.total = s.manager.total ∧ (answerDeferredStop s).manager.held = s.manager.held := by
  unfold answerDeferredStop
  split
  · next r hr =>
    refine ⟨?_, by simp only [ManagementController.held, respond, hr]⟩
    simp only [ManagementController.total, respond, Deferred.count, hr, List.length_append, List.length_singleton]
    omega
  all_goals exact ⟨rfl, rfl⟩

@[simp] theorem runAfterCompletion_total_held :
    (runAfterCompletion s).manager.total = s.manager.total ∧ (runAfterCompletion s).manager.held = s.manager.held := by
  unfold runAfterCompletion
  (repeat' split) <;> simp

@[simp] theorem sweepCompletion_total_held (r : SweepRecord) :
    (sweepCompletion r s).manager.total = s.manager.total ∧ (sweepCompletion r s).manager.held = s.manager.held := by
  unfold sweepCompletion
  dsimp only
  split <;> simp

@[simp] theorem checkCompletion_total_held :
    (checkCompletion s).manager.total = s.manager.total ∧ (checkCompletion s).manager.held = s.manager.held := by
  unfold checkCompletion
  (repeat' split) <;> simp

@[simp] theorem completeRequest_total_held (e : InFlight) (content : Content) (tagAfter : TagState) :
    (completeRequest e content tagAfter s).manager.total = s.manager.total ∧
      (completeRequest e content tagAfter s).manager.held = s.manager.held := by simp [completeRequest]

@[simp] theorem fillRest_total_held :
    (fillRest s).manager.total = s.manager.total ∧ (fillRest s).manager.held = s.manager.held := by simp [fillRest]

@[simp] theorem beginIssuing_total_held :
    (beginIssuing s).manager.total = s.manager.total ∧ (beginIssuing s).manager.held = s.manager.held := by
  unfold beginIssuing
  dsimp only
  split <;> simp

@[simp] theorem sweepStart_total_held :
    (sweepStart s).manager.total = s.manager.total ∧ (sweepStart s).manager.held = s.manager.held := by simp [sweepStart]

@[simp] theorem enterRun_total_held :
    (enterRun s).manager.total = s.manager.total ∧ (enterRun s).manager.held = s.manager.held := by
  unfold enterRun
  split <;> simp

@[simp] theorem setLink_total_held (p : Port) (l : Link) :
    (setLink p l s).manager.total = s.manager.total ∧ (setLink p l s).manager.held = s.manager.held := by
  cases p with
  | intake =>
    simp only [setLink, setIntakeLink]
    (repeat' split) <;> simp [intakeDropped]
  | delivery => simp [setLink]

@[simp] theorem receiveBadFrame_total_held (p : Port) :
    (receiveBadFrame p s).manager.total = s.manager.total ∧ (receiveBadFrame p s).manager.held = s.manager.held := by
  rw [receiveBadFrame_eq]
  split <;> simp

@[simp] theorem matchReply_total_held (f : SampleFrame) :
    (matchReply f s).manager.total = s.manager.total ∧ (matchReply f s).manager.held = s.manager.held := by
  unfold matchReply timedReply
  (repeat' split) <;> simp

@[simp] theorem receiveSample_total_held (f : SampleFrame) :
    (receiveSample f s).manager.total = s.manager.total ∧ (receiveSample f s).manager.held = s.manager.held :=
  receiveGoodFrame_of (P := fun u => u.manager.total = s.manager.total ∧ u.manager.held = s.manager.held) (by simp)
    (fun _ => by simp)

@[simp] theorem receiveIntakeFrame_total_held (f : RawFrame) :
    (receiveIntakeFrame f s).manager.total = s.manager.total ∧ (receiveIntakeFrame f s).manager.held = s.manager.held := by
  unfold receiveIntakeFrame
  split
  · split
    · split <;> simp
    · exact receiveGoodFrame_of (P := fun u => u.manager.total = s.manager.total ∧ u.manager.held = s.manager.held)
        (by simp) (fun _ => by simp)
  · simp

@[simp] theorem pacerExpires_total_held :
    (pacerExpires s).manager.total = s.manager.total ∧ (pacerExpires s).manager.held = s.manager.held := by
  unfold pacerExpires pacerEvent
  (repeat' split) <;> simp

@[simp] theorem startLineLevel_total_held (level : Bool) :
    (startLineLevel level s).manager.total = s.manager.total ∧ (startLineLevel level s).manager.held = s.manager.held := by
  unfold startLineLevel startEdgeSeen
  dsimp only
  (repeat' split) <;> simp

@[simp] theorem requestTimesOut_total_held (t : Nat) :
    (requestTimesOut t s).manager.total = s.manager.total ∧ (requestTimesOut t s).manager.held = s.manager.held := by
  unfold requestTimesOut
  (repeat' split) <;> simp

@[simp] theorem frameWhileAligning_total_held (p : Port) (good : Bool) :
    (frameWhileAligning p good s).manager.total = s.manager.total ∧
      (frameWhileAligning p good s).manager.held = s.manager.held := by
  unfold frameWhileAligning goodReception badReception
  (repeat' split) <;> simp

end

section
variable {s : State} {n : Nat}

theorem ManagerBound.of_total {m m' : ManagementController} (h : ManagerBound n m) (hrequests : m'.requests = m.requests)
    (htotal : m'.total = m.total) (hheld : m'.held = m.held) (hhold : m'.resetHold = m.resetHold) : ManagerBound n m' :=
  ⟨hrequests ▸ h.requests, htotal ▸ h.total, by rw [hhold, hheld]; exact h.hold⟩

/-- A response makes the total one larger (R144, R153). -/
theorem managerBound_respond (r : Request) (status : Status) (payload : List Word) (h : ManagerBound n s.manager) :
    ManagerBound (n + 1) (respond r status payload s).manager := by
  obtain ⟨hrequests, htotal, hhold⟩ := h
  refine ⟨hrequests, ?_, hhold⟩
  simp only [ManagementController.total, respond, List.length_append, List.length_singleton] at htotal ⊢
  omega

/-- The front request's departure makes room for one response. -/
theorem managerBound_popRequest {r : Request} (h : ManagerBound (n + 1) s.manager) (hr : s.manager.front = some r) :
    ManagerBound n (popRequest s).manager := by
  obtain ⟨rest, hx⟩ := executes_of_front hr
  obtain ⟨hrequests, htotal, hhold⟩ := h
  rw [hx.popped]
  simp only [ManagementController.total, hx.front, List.length_cons] at hrequests htotal
  exact ⟨by simp only; omega, by simp only [ManagementController.total]; omega, hhold⟩

/-- A body that answers once, and otherwise keeps what the total counts, keeps the bound of the total. -/
theorem managerBound_of_answer {t : State} (h : ManagerBound 11 s.manager) (hrequests : t.manager.requests = s.manager.requests)
    (hdeferred : t.manager.deferred = s.manager.deferred) (hhold : t.manager.resetHold = s.manager.resetHold)
    (hresponses : t.manager.responses.length = s.manager.responses.length + 1) : ManagerBound 12 t.manager := by
  obtain ⟨hsize, htotal, hheld⟩ := h
  refine ⟨hrequests ▸ hsize, ?_, ?_⟩
  · simp only [ManagementController.total, hrequests, hdeferred, hresponses] at htotal ⊢
    omega
  · simpa only [ManagementController.held, hdeferred, hhold] using hheld

/-! ## The requests -/

theorem managerBound_startRunBody (lines : Lines) (r : Request) (h : ManagerBound 11 s.manager) :
    ManagerBound 12 (startRunBody lines r s).manager := by
  unfold startRunBody
  dsimp only
  (repeat' split) <;> refine managerBound_respond _ _ _ ?_
  · exact h
  · exact h
  · exact h.of_total (by simp) (by simp) (by simp) (by simp)
  · exact h

theorem managerBound_deferStop (r : Request) (stop : State → State) (hstop : (stop s).manager = s.manager)
    (h : ManagerBound 11 s.manager) : ManagerBound 12 (deferStop r stop s).manager := by
  unfold deferStop
  split
  · next hd =>
    obtain ⟨hrequests, htotal, hhold⟩ := h
    simp only [ManagementController.total, ManagementController.held, hd, Deferred.count] at htotal hhold
    refine ⟨by simpa only [hstop] using hrequests, ?_, by simpa only [hstop, ManagementController.held] using hhold⟩
    simp only [ManagementController.total, hstop, Deferred.count]
    omega
  all_goals exact managerBound_respond _ _ _ h

theorem managerBound_stopRunBody (r : Request) (h : ManagerBound 11 s.manager) :
    ManagerBound 12 (stopRunBody r s).manager := by
  have ended : ManagerBound 11 (runEndReport (endRun .stopRequest s)).manager := by simpa using h
  unfold stopRunBody
  split
  · split
    · exact managerBound_respond _ _ _ h
    · exact managerBound_respond _ _ _ ended
    · split
      · exact managerBound_deferStop _ _ rfl h
      · exact managerBound_respond _ _ _ ended
    · split
      · exact managerBound_deferStop _ _ rfl h
      · exact managerBound_respond _ _ _ ended
    · exact managerBound_deferStop _ _ rfl h
  · exact managerBound_respond _ _ _ h

/-- RESET_ENGINE leaves the queue for the slot, and a STOP_RUN that was in the slot leaves it for the Response Queue. -/
theorem managerBound_resetEngineBody (r : Request) (h : ManagerBound 11 s.manager) :
    ManagerBound 12 (resetEngineBody r s).manager := by
  unfold resetEngineBody
  split
  · obtain ⟨hrequests, htotal, -⟩ := h
    refine ⟨by simpa using hrequests, ?_, rfl⟩
    unfold supersedeStop
    split
    · next q hq =>
      simp only [ManagementController.total, respond, Deferred.count, hq, List.length_append, List.length_singleton]
        at htotal ⊢
      omega
    all_goals
      simp only [ManagementController.total, Deferred.count] at htotal ⊢
      omega
  · exact managerBound_respond _ _ _ h

theorem discardById_manager (id : BitVec 16) (s : State) : (discardById id s).2.manager = s.manager := by
  unfold discardById
  (repeat' split) <;> simp

/-- Every request but START_RUN, STOP_RUN and RESET_ENGINE is answered once and keeps what else the total counts. -/
theorem responses_of_request {c : Instr} {kind : Byte} {body : Request → State → State}
    (h : requestOfCommand c = some (kind, body)) (hstart : ∀ lines, c ≠ .startRun lines) (hstop : c ≠ .stopRun)
    (hreset : c ≠ .resetEngine) (r : Request) (s : State) :
    (body r s).manager.responses.length = s.manager.responses.length + 1 ∧
      (body r s).manager.requests = s.manager.requests ∧ (body r s).manager.deferred = s.manager.deferred ∧
      (body r s).manager.resetHold = s.manager.resetHold := by
  have answered {u : State} {status : Status} {payload : List Word} (hu : u.manager = s.manager) :
      (respond r status payload u).manager.responses.length = s.manager.responses.length + 1 := by
    rw [respond_responses, List.length_append, List.length_singleton, hu]
  cases c with
  | startRun lines => exact absurd rfl (hstart lines)
  | stopRun => exact absurd rfl hstop
  | resetEngine => exact absurd rfl hreset
  | echo | readStatus | setParameter | getParameter | writeProgramEntry | readProgramEntry | writeCondition
  | readCondition | forceTrigger | arm | disarm | clearHalt | openWindow | closeWindow | discardRecord | readCounters =>
    cases h
    refine ⟨?_, by simp, by simp, by simp⟩
    simp only [echoBody, readStatusBody, setParameterBody, getParameterBody, writeProgramEntryBody, readProgramEntryBody,
      writeConditionBody, readConditionBody, forceTriggerBody, armBody, disarmBody, clearHaltBody, openWindowBody,
      closeWindowBody, discardRecordBody, readCountersBody]
    (repeat' split) <;> exact answered (by simp [discardById_manager])
  | _ => cases h

end

/-! ## The arrival of requests (R144 to R147) -/

section
variable {s : State}

theorem managerBound_refuseArrival (r : Request) (status : Status) (h : ManagerBound 12 s.manager) :
    ManagerBound 12 (refuseArrival r status s).manager := by
  unfold refuseArrival
  split
  · next hroom => exact managerBound_respond _ _ _ ⟨h.requests, Nat.le_of_lt_succ hroom, h.hold⟩
  · exact h

theorem managerBound_acceptOwn (r : Request) (h : ManagerBound 12 s.manager) :
    ManagerBound 12 (acceptOwn r s).manager := by
  unfold acceptOwn
  split
  · next hroom =>
    obtain ⟨hrequests, htotal⟩ : s.manager.requests.length < 8 ∧ s.manager.total < 12 := hroom
    simp only [ManagementController.total] at htotal
    refine ⟨?_, ?_, h.hold⟩
    · simp only [List.length_append, List.length_singleton]
      omega
    · simp only [ManagementController.total, List.length_append, List.length_singleton]
      omega
  · exact managerBound_refuseArrival _ _ h

/-- What an arrival does: the request is queued or refused, and joins the forward buffer only where there is room. -/
theorem classifyArrival_bounds (r : Request) (hm : ManagerBound 12 s.manager) (hf : s.intake.forward.length ≤ 4) :
    ManagerBound 12 (classifyArrival r s).manager ∧ (classifyArrival r s).intake.forward.length ≤ 4 := by
  have forwarded (next : State → State) (hnext : ∀ u, u.manager = s.manager → ManagerBound 12 (next u).manager)
      (hport : ∀ u, (next u).intake = u.intake) :
      ManagerBound 12 (forwardArrival r next s).manager ∧ (forwardArrival r next s).intake.forward.length ≤ 4 := by
    unfold forwardArrival
    split
    · exact ⟨managerBound_refuseArrival _ _ hm, by simpa using hf⟩
    · split
      · exact ⟨managerBound_refuseArrival _ _ hm, by simpa using hf⟩
      · next hroom =>
        have hroom : ¬ 4 ≤ s.intake.forward.length := hroom
        refine ⟨hnext _ rfl, ?_⟩
        simp only [hport, List.length_append, List.length_singleton]
        omega
  unfold classifyArrival
  split
  · exact ⟨managerBound_acceptOwn r hm, by simpa using hf⟩
  · split
    · exact forwarded _ (fun u hu => managerBound_acceptOwn r (by rw [hu]; exact hm)) (by simp)
    · exact forwarded _ (fun u hu => by rw [id, hu]; exact hm) (fun _ => rfl)

/-! ## The forward and passback buffers (R169, R170) -/

/-- A drop of the intake link empties the forward buffer; nothing else of a link's step touches it. -/
theorem setLink_forward (p : Port) (l : Link) (s : State) :
    (setLink p l s).intake.forward.length ≤ s.intake.forward.length := by
  cases p with
  | intake =>
    simp only [setLink, setIntakeLink]
    (repeat' split)
    · simp
    · simp [(intakeDropped_intake _).2.1]
    · simp
  | delivery => simp [setLink]

/-- A drop of the delivery link empties the passback buffer; nothing else of a link's step touches it. -/
theorem setLink_passback (p : Port) (l : Link) (s : State) :
    (setLink p l s).deliveryPort.passback.length ≤ s.deliveryPort.passback.length := by
  cases p with
  | intake => simp [setLink]
  | delivery =>
    simp only [setLink, setDeliveryLink]
    split
    · simp [deliveryDropped]
    · simp

/-- The manager and the two buffers within their bounds: what a reception can touch besides the notices. -/
structure BuffersInv (s : State) : Prop where
  manager : ManagerBound 12 s.manager
  forward : s.intake.forward.length ≤ 4
  passback : s.deliveryPort.passback.length ≤ 4

theorem queuesInv_of (hb : BuffersInv s) (hn : NoticesInv s.notices) : QueuesInv s :=
  (queuesInv_iff s).mpr ⟨hb.manager, hn, hb.forward, hb.passback⟩

theorem QueuesInv.buffers (h : QueuesInv s) : BuffersInv s ∧ NoticesInv s.notices := by
  obtain ⟨hm, hn, hf, hp⟩ := (queuesInv_iff s).mp h
  exact ⟨⟨hm, hf, hp⟩, hn⟩

theorem BuffersInv.of_eq {t : State} (h : BuffersInv s) (hmanager : ManagerBound 12 t.manager)
    (hforward : t.intake.forward = s.intake.forward) (hpassback : t.deliveryPort.passback = s.deliveryPort.passback) :
    BuffersInv t := ⟨hmanager, hforward ▸ h.forward, hpassback ▸ h.passback⟩

theorem buffersInv_setLink (p : Port) (l : Link) (h : BuffersInv s) : BuffersInv (setLink p l s) :=
  ⟨h.manager.of_total (by simp) (by simp) (by simp) (by simp), Nat.le_trans (setLink_forward p l s) h.forward,
    Nat.le_trans (setLink_passback p l s) h.passback⟩

theorem buffersInv_receiveBadFrame (p : Port) (h : BuffersInv s) : BuffersInv (receiveBadFrame p s) := by
  rw [receiveBadFrame_eq]
  refine buffersInv_setLink _ _ ?_
  split
  · exact h.of_eq (by simpa using h.manager) (by simp) (by simp)
  · exact h

theorem buffersInv_receiveSample (f : SampleFrame) (h : BuffersInv s) : BuffersInv (receiveSample f s) := by
  have hlink := buffersInv_setLink .intake (s.link .intake).good h
  exact receiveGoodFrame_of hlink fun _ =>
    hlink.of_eq (hlink.manager.of_total (by simp) (by simp) (by simp) (by simp)) (by simp) (by simp)

theorem buffersInv_joinPassback (f : RawFrame) (h : BuffersInv s) : BuffersInv (joinPassback f s) := by
  unfold joinPassback
  split
  · next hroom =>
    have hroom : s.deliveryPort.passback.length < 4 := hroom
    refine ⟨h.manager, h.forward, ?_⟩
    simp only [List.length_append, List.length_singleton]
    omega
  · exact ⟨h.manager, h.forward, h.passback⟩

theorem buffersInv_receiveIntakeFrame (f : RawFrame) (h : BuffersInv s) : BuffersInv (receiveIntakeFrame f s) := by
  have hlink := buffersInv_setLink .intake (s.link .intake).good h
  unfold receiveIntakeFrame
  split
  · split
    · split
      · exact buffersInv_receiveSample _ h
      · exact buffersInv_receiveBadFrame _ h
    · exact receiveGoodFrame_of hlink fun _ => buffersInv_joinPassback f hlink
  · exact buffersInv_receiveBadFrame _ h

theorem buffersInv_receiveRequest (r : Request) (h : BuffersInv s) : BuffersInv (receiveRequest r s) := by
  have hlink := buffersInv_setLink .delivery (s.link .delivery).good h
  unfold receiveRequest
  split
  · refine receiveGoodFrame_of hlink fun _ => ?_
    obtain ⟨hmanager, hforward⟩ := classifyArrival_bounds r hlink.manager hlink.forward
    exact ⟨hmanager, hforward, by simpa using hlink.passback⟩
  · exact buffersInv_receiveBadFrame _ h

/-- A deferred RESET_ENGINE that completes leaves the slot for the Response Queue, and clears the hold (R160). -/
theorem managerBound_resetCompletes (h : ManagerBound 12 s.manager) : ManagerBound 12 (resetCompletes s).manager := by
  unfold resetCompletes
  split
  · next r hr =>
    split
    · obtain ⟨hrequests, htotal, -⟩ := h
      simp only [ManagementController.total, hr, Deferred.count] at htotal
      refine ⟨by simpa using hrequests, ?_, rfl⟩
      simp only [ManagementController.total, Deferred.count, respond, resetBlocks, List.length_append,
        List.length_singleton]
      omega
    · exact h
  all_goals exact h

/-- The execution of the front request keeps the bounds: it leaves the queue and makes at most one response. -/
theorem managerBound_executeFront {c : Instr} {kind : Byte} {body : Request → State → State}
    (hc : requestOfCommand c = some (kind, body)) (h : ManagerBound 12 s.manager) :
    ManagerBound 12 (effect c s).manager := by
  rw [effect_of_requestOfCommand hc]
  refine executeFront_of (P := fun u => ManagerBound 12 u.manager) h fun r hr => ?_
  have hpop := managerBound_popRequest h hr
  by_cases hstart : ∃ lines, c = .startRun lines
  · obtain ⟨lines, rfl⟩ := hstart
    cases hc
    exact managerBound_startRunBody lines r hpop
  · by_cases hstop : c = .stopRun
    · subst hstop
      cases hc
      exact managerBound_stopRunBody r hpop
    · by_cases hreset : c = .resetEngine
      · subst hreset
        cases hc
        exact managerBound_resetEngineBody r hpop
      · obtain ⟨hresponses, hrequests, hdeferred, hhold⟩ :=
          responses_of_request hc (fun lines hl => hstart ⟨lines, hl⟩) hstop hreset r (popRequest s)
        exact managerBound_of_answer hpop hrequests hdeferred hhold hresponses

theorem buffersInv_effect (c : Instr) (h : BuffersInv s) : BuffersInv (effect c s) := by
  cases c with
  | echo | readStatus | setParameter | getParameter | writeProgramEntry | readProgramEntry | startRun | stopRun
  | writeCondition | readCondition | forceTrigger | arm | disarm | clearHalt | openWindow | closeWindow | discardRecord
  | readCounters | resetEngine =>
    exact h.of_eq (managerBound_executeFront rfl h.manager) (executeFront_frame (·.intake.forward) (by simp) (by simp))
      (executeFront_frame (·.deliveryPort.passback) (by simp) (by simp))
  | unknownRequestKind =>
    refine h.of_eq ?_ (by simp [effect]) (by simp [effect])
    simp only [effect, unknownKind]
    split
    · next r hr =>
      split
      · exact h.manager
      · exact managerBound_respond _ _ _ (managerBound_popRequest h.manager hr)
    · exact h.manager
  | requestArrival r => exact buffersInv_receiveRequest r h
  | sampleReceived f lines => exact buffersInv_receiveSample f (h.of_eq h.manager rfl rfl)
  | passbackReceived f => exact buffersInv_receiveIntakeFrame f h
  | badFrame p lines => exact buffersInv_receiveBadFrame p (h.of_eq h.manager rfl rfl)
  | idleAlignmentSequence p => exact buffersInv_setLink _ _ h
  | goodIdleGroup p => exact buffersInv_setLink _ _ h
  | malformedIdleGroup p lines => exact buffersInv_setLink _ _ (h.of_eq h.manager rfl rfl)
  | lossOfSignal p lines => exact buffersInv_setLink _ _ (h.of_eq h.manager rfl rfl)
  | frameReceivedWhileAligning p good =>
    simp only [effect, frameWhileAligning]
    (repeat' split)
    · exact buffersInv_setLink _ _ h
    · exact buffersInv_setLink _ _ h
    · exact h
  | resetEffects =>
    exact h.of_eq (managerBound_resetCompletes h.manager) (by simp [effect]) (by simp [effect])
  | hardReset straps level =>
    obtain ⟨⟨hm, hf, hp⟩, -⟩ := (inv_afterReset (nodeOfStraps straps) level).queues.buffers
    exact ⟨hm, hf, hp⟩
  | pacerExpiry | sweepStartEdge | spacingTimerExpiry | requestTimeout | quarantineExpiry | trigoutPulseExpiry
  | convertSent | recordFrameEnd | frameTransmissionEnd =>
    exact h.of_eq (h.manager.of_total (by simp [effect]) (by simp [effect]) (by simp [effect]) (by simp [effect]))
      (by simp [effect]) (by simp [effect])

theorem queuesInv_effect (c : Instr) (h : QueuesInv s) : QueuesInv (effect c s) := by
  obtain ⟨hb, hn⟩ := h.buffers
  exact queuesInv_of (buffersInv_effect c hb) (noticesInv_effect c hn)

/-! ## The arbiters (R168) -/

theorem arbitrateUp_forward (s : State) : (arbitrateUp s).intake.forward.length ≤ s.intake.forward.length := by
  have hchoice : (upChoice s).intake.forward = s.intake.forward := by
    unfold upChoice
    split <;> rfl
  have chosen (u : State) : (chooseUp u).intake.forward.length ≤ u.intake.forward.length := by
    unfold chooseUp
    (repeat' split) <;> simp [startUp, *]
  rw [arbitrateUp_eq]
  split
  · exact Nat.le_trans (chosen _) (Nat.le_of_eq (congrArg _ hchoice))
  · exact Nat.le_of_eq (congrArg _ hchoice)

/-- A grant takes a response, a passback frame or a notice from its queue, and the notice takes the dropped-before count
with it (R134, R172). -/
theorem queuesInv_chooseDown (h : QueuesInv s) : QueuesInv (chooseDown s) := by
  have granted : QueuesInv (grantRecord s) := by
    obtain ⟨⟨⟨h1, h2, h3⟩, h4, h5⟩, h6, h7, h8⟩ := h.buffers
    exact ⟨by simpa using h1, by simpa [ManagementController.total] using h2,
      by simpa [ManagementController.held] using h3, by simpa using h6, by simpa using h7, by simpa using h8,
      by simpa using h4, by simpa using h5⟩
  obtain ⟨⟨⟨hrequests, htotal, hhold⟩, hforward, hpassback⟩, hn⟩ := h.buffers
  unfold chooseDown
  split
  · exact granted
  · split
    · next hr =>
      refine queuesInv_of ⟨⟨hrequests, ?_, hhold⟩, hforward, hpassback⟩ hn
      simp only [ManagementController.total, hr, List.length_cons, startDown] at htotal ⊢
      omega
    · split
      · next hp =>
        refine queuesInv_of ⟨⟨hrequests, htotal, hhold⟩, hforward, ?_⟩ hn
        simp only [hp, List.length_cons, startDown] at hpassback ⊢
        omega
      · split
        · next hq =>
          refine queuesInv_of ⟨⟨hrequests, htotal, hhold⟩, hforward, hpassback⟩ ⟨?_, Nat.zero_le _, fun hpos => ?_⟩
          · have := hn.size
            simp only [hq, List.length_cons, startDown] at this ⊢
            omega
          · exact absurd hpos (Nat.lt_irrefl 0)
        · split
          · exact granted
          · exact h

theorem queuesInv_settle (h : QueuesInv s) : QueuesInv (settle s) := by
  have hup : QueuesInv (arbitrateUp s) := by
    obtain ⟨⟨hm, hf, hp⟩, hn⟩ := h.buffers
    exact queuesInv_of ⟨by simpa using hm, Nat.le_trans (arbitrateUp_forward s) hf, by simpa using hp⟩ (by simpa using hn)
  have hchoice : QueuesInv (downChoice (arbitrateUp s)) := by
    unfold downChoice
    split
    · exact hup
    · obtain ⟨⟨hm, hf, hp⟩, hn⟩ := hup.buffers
      exact queuesInv_of ⟨hm, hf, hp⟩ hn
  rw [settle, arbitrateDown_eq]
  split
  · exact queuesInv_chooseDown hchoice
  · exact hchoice

theorem queuesInv_idle (h : QueuesInv s) : QueuesInv (idle s) := by
  obtain ⟨⟨hm, hf, hp⟩, hn⟩ := h.buffers
  exact queuesInv_of ⟨by simpa using hm, by simpa using hf, by simpa using hp⟩ (by simpa using hn)

theorem queuesInv_pending (l : List Instr) (h : QueuesInv s) : QueuesInv { s with pending := l } := by
  obtain ⟨⟨hm, hf, hp⟩, hn⟩ := h.buffers
  exact queuesInv_of ⟨hm, hf, hp⟩ hn

end

/-- Settles O7. -/
theorem queuesStayBounded : Obligations.QueuesStayBounded := by
  unfold Obligations.QueuesStayBounded
  exact step_keeps (P := QueuesInv) (fun _ => queuesInv_pending) (fun c _ => queuesInv_effect c)
    (fun _ => queuesInv_settle) (fun _ => queuesInv_idle)

end Sys2Proof.Machine
end

section
/-! PROOFS. Every step keeps the Delivery Queue, the windows and the frame under way in agreement (06): O11. -/

namespace Sys2Proof.Machine

/-! ## What the invariant speaks of -/

theorem DeliveryInv.of_delivery {s t : State} (h : DeliveryInv s) (hd : t.delivery = s.delivery)
    (hl : t.deliveryPort.lane = s.deliveryPort.lane) : DeliveryInv t := by
  have hf : t.frameUnderWay = s.frameUnderWay := by unfold State.frameUnderWay; rw [hl]
  obtain ⟨h1, h2, h3, h4, h5, h6, h7, h8, h9⟩ := h
  rw [← hd] at h1 h2 h3 h4 h5 h6 h8 h9
  rw [← hf] at h5 h7 h8 h9
  refine ⟨h1, h2, h3, h4, h5, h6, fun f hf ha => ?_, h8, h9⟩
  obtain ⟨⟨w, room, count, head⟩, hn⟩ := h7 f hf ha
  rw [← hd] at w room head hn
  exact ⟨⟨w, room, count, head⟩, hn⟩

/-- A Delivery Unit agrees with the frame on the lane, in whatever state they stand. -/
def DeliveryAgrees (d : DeliveryUnit) (lane : Option DownFrame) : Prop :=
  ∀ s : State, s.delivery = d → s.deliveryPort.lane = lane → DeliveryInv s

theorem deliveryInv_iff (s : State) : DeliveryInv s ↔ DeliveryAgrees s.delivery s.deliveryPort.lane :=
  ⟨fun h _ hd hl => h.of_delivery hd hl, fun h => h s rfl rfl⟩

/-! ## A record joins the queue (R98, R113) -/

section
variable {s : State} {lane : Option DownFrame}

/-- A closed record that joins the Delivery Queue has cells and is not discarded, so the agreement stays. -/
theorem DeliveryAgrees.append {d : DeliveryUnit} (h : DeliveryAgrees d lane) {q : QueuedRecord} (hcells : q.cells ≠ [])
    (hdiscarded : q.discarded = false) : DeliveryAgrees { d with queue := d.queue ++ [q] } lane := by
  intro s hd hl
  obtain ⟨hwindowA, hwindowB, hhas, htail, hhead, hzero, hframes, habandoned, hpending⟩ := h { s with delivery := d } rfl hl
  have hframe : s.frameUnderWay = ({ s with delivery := d } : State).frameUnderWay := rfl
  rw [← hframe] at hhead hframes habandoned hpending
  have hwindow (w : WindowId) : s.delivery.window w = d.window w := by cases w <;> simp [hd, DeliveryUnit.window]
  have hcurrent : s.delivery.current = d.current := by rw [hd]
  have hqueue : s.delivery.queue = d.queue ++ [q] := by rw [hd]
  have hnote : s.delivery.note = d.note := by rw [hd]
  have hposition : s.delivery.position = d.position := by rw [hd]
  have hlanes : s.delivery.windowA = d.windowA ∧ s.delivery.windowB = d.windowB := by rw [hd]; exact ⟨rfl, rfl⟩
  refine ⟨hlanes.1 ▸ hcurrent ▸ hwindowA, hlanes.2 ▸ hcurrent ▸ hwindowB, fun x hx => ?_, fun x hx => ?_, fun x hx hxd => ?_,
    fun hp => ?_, fun f hf ha => ?_, fun f hf ha => ?_, fun hp => ?_⟩
  · rw [hqueue, List.mem_append, List.mem_singleton] at hx
    exact hx.elim (hhas x) fun hxq => hxq ▸ hcells
  · rw [hqueue] at hx
    cases hq : d.queue with
    | nil => simp [hq] at hx
    | cons y ys =>
      rw [hq, List.cons_append, List.tail_cons, List.mem_append, List.mem_singleton] at hx
      exact hx.elim (fun hxy => htail x (by simp only [hq, List.tail_cons]; exact hxy)) fun hxq => hxq ▸ hdiscarded
  · cases hq : d.queue with
    | nil =>
      rw [hqueue, hq, List.nil_append, List.head?_cons, Option.some.injEq] at hx
      rw [← hx, hdiscarded] at hxd
      cases hxd
    | cons y ys =>
      rw [hqueue, hq, List.cons_append, List.head?_cons] at hx
      exact hhead x (by simp only [hq, List.head?_cons]; exact hx) hxd
  · rw [hposition]
    rw [hqueue, hnote] at hp
    exact hzero (hp.elim (fun hnil => absurd hnil (by simp)) .inr)
  · obtain ⟨⟨hw, hroom, hcount, y, rest, hyq, hrest⟩, hn⟩ := hframes f hf ha
    refine ⟨⟨?_, ?_, hcount, y, rest ++ [q], ?_, ?_⟩, hnote ▸ hn⟩
    · rw [hwindow, hcurrent]
      exact hw
    · rw [hwindow]
      exact hroom
    · rw [hqueue, show d.queue = y :: rest from hyq, List.cons_append]
    · rw [hposition]
      exact hrest
  · rw [hwindow, hcurrent, hnote]
    exact habandoned f hf ha
  · rw [hwindow, hcurrent] at hp
    exact hpending hp

theorem close_cells_ne_nil (r : OpenRecord) (post : Nat) (truncated cut : Bool) :
    (r.close post truncated cut).cells ≠ [] := by simp [OpenRecord.close, RecordHeader.words]

@[simp] theorem deliveryAgrees_closeRecord (truncated cut : Bool) (h : DeliveryAgrees s.delivery lane) :
    DeliveryAgrees (closeRecord truncated cut s).delivery lane := by
  unfold closeRecord
  split
  · exact h
  · simp only [trigoutPostLeft_keeps, postNotice_keeps]
    exact h.append (close_cells_ne_nil _ _ _ _) rfl

@[simp] theorem deliveryAgrees_quotaPath (h : DeliveryAgrees s.delivery lane) :
    DeliveryAgrees (quotaPath s).delivery lane := by simpa using h

@[simp] theorem deliveryAgrees_closeNormally (h : DeliveryAgrees s.delivery lane) :
    DeliveryAgrees (closeNormally s).delivery lane := by simp [closeNormally, h]

@[simp] theorem deliveryAgrees_closeTruncated (h : DeliveryAgrees s.delivery lane) :
    DeliveryAgrees (closeTruncated s).delivery lane := by simp [closeTruncated, h]

@[simp] theorem deliveryAgrees_runEndReport (h : DeliveryAgrees s.delivery lane) :
    DeliveryAgrees (runEndReport s).delivery lane := by
  unfold runEndReport
  split <;> simp [h]

@[simp] theorem deliveryAgrees_postAppend (h : DeliveryAgrees s.delivery lane) :
    DeliveryAgrees (postAppend s).delivery lane := by
  unfold postAppend
  dsimp only
  (repeat' split) <;> simp [h]

@[simp] theorem deliveryAgrees_receiveCompleted (v : Verdict) (number : Word) (h : DeliveryAgrees s.delivery lane) :
    DeliveryAgrees (receiveCompleted v number s).delivery lane := by
  unfold receiveCompleted
  (repeat' split) <;> simp [h]

@[simp] theorem deliveryAgrees_blockRequest (r : SweepRecord) (h : DeliveryAgrees s.delivery lane) :
    DeliveryAgrees (blockRequest r s).delivery lane := by
  unfold blockRequest
  dsimp only
  (repeat' split) <;> simp [h]

@[simp] theorem deliveryAgrees_judgeSweep (number : Word) (h : DeliveryAgrees s.delivery lane) :
    DeliveryAgrees (judgeSweep number s).delivery lane := by
  unfold judgeSweep
  dsimp only
  split <;> simp [h]

@[simp] theorem deliveryAgrees_sweepCompletion (r : SweepRecord) (h : DeliveryAgrees s.delivery lane) :
    DeliveryAgrees (sweepCompletion r s).delivery lane := by
  unfold sweepCompletion
  dsimp only
  split <;> simp [h]

@[simp] theorem deliveryAgrees_checkCompletion (h : DeliveryAgrees s.delivery lane) :
    DeliveryAgrees (checkCompletion s).delivery lane := by
  unfold checkCompletion
  (repeat' split) <;> simp [h]

@[simp] theorem deliveryAgrees_completeRequest (e : InFlight) (content : Content) (tagAfter : TagState)
    (h : DeliveryAgrees s.delivery lane) : DeliveryAgrees (completeRequest e content tagAfter s).delivery lane := by
  simp [completeRequest, h]

@[simp] theorem deliveryAgrees_fillRest (h : DeliveryAgrees s.delivery lane) :
    DeliveryAgrees (fillRest s).delivery lane := by simp [fillRest, h]

@[simp] theorem deliveryAgrees_beginIssuing (h : DeliveryAgrees s.delivery lane) :
    DeliveryAgrees (beginIssuing s).delivery lane := by
  unfold beginIssuing
  dsimp only
  split <;> simp [h]

@[simp] theorem deliveryAgrees_sweepStart (h : DeliveryAgrees s.delivery lane) :
    DeliveryAgrees (sweepStart s).delivery lane := by simp [sweepStart, h]

/-! ## The sweep's events and the requests of the run and of capture -/

theorem deliveryAgrees_startRunBody (lines : Lines) (r : Request) (h : DeliveryAgrees s.delivery lane) :
    DeliveryAgrees (startRunBody lines r s).delivery lane := by
  unfold startRunBody enterRun
  dsimp only
  (repeat' split) <;> simp [h]

theorem deliveryAgrees_stopRunBody (r : Request) (h : DeliveryAgrees s.delivery lane) :
    DeliveryAgrees (stopRunBody r s).delivery lane := by
  unfold stopRunBody deferStop
  (repeat' split) <;> simp [h]

theorem deliveryAgrees_disarmBody (r : Request) (h : DeliveryAgrees s.delivery lane) :
    DeliveryAgrees (disarmBody r s).delivery lane := by
  unfold disarmBody disarmEffects
  dsimp only
  (repeat' split) <;> simp [h]

@[simp] theorem deliveryAgrees_pacerExpires (h : DeliveryAgrees s.delivery lane) :
    DeliveryAgrees (pacerExpires s).delivery lane := by
  unfold pacerExpires pacerEvent
  (repeat' split) <;> simp [h]

@[simp] theorem deliveryAgrees_startLineLevel (level : Bool) (h : DeliveryAgrees s.delivery lane) :
    DeliveryAgrees (startLineLevel level s).delivery lane := by
  unfold startLineLevel startEdgeSeen
  dsimp only
  (repeat' split) <;> simp [h]

@[simp] theorem deliveryAgrees_requestTimesOut (t : Nat) (h : DeliveryAgrees s.delivery lane) :
    DeliveryAgrees (requestTimesOut t s).delivery lane := by
  unfold requestTimesOut
  (repeat' split) <;> simp [h]

@[simp] theorem deliveryAgrees_matchReply (f : SampleFrame) (h : DeliveryAgrees s.delivery lane) :
    DeliveryAgrees (matchReply f s).delivery lane := by
  unfold matchReply timedReply
  (repeat' split) <;> simp [h]

theorem deliveryAgrees_setIntakeLink (l : Link) (h : DeliveryAgrees s.delivery lane) :
    DeliveryAgrees (setIntakeLink l s).delivery lane := by
  unfold setIntakeLink
  dsimp only
  (repeat' split) <;> simp [intakeDropped, h]

end

/-! ## Windows (R114, R115, R121, R122) -/

section
variable {s : State}

theorem window_setWindow_of_ne {d : DeliveryUnit} {w w' : WindowId} {x : Window} (h : w' ≠ w) :
    (d.setWindow w x).window w' = d.window w' := by
  cases w <;> cases w' <;> trivial

theorem WindowId.other_ne (w : WindowId) : w.other ≠ w := by cases w <;> decide

theorem WindowId.eq_other_of_ne {w w' : WindowId} (h : w' ≠ w) : w' = w.other := by cases w <;> cases w' <;> trivial

/-- The two windows' part of the invariant, for either of them. -/
theorem DeliveryInv.window (h : DeliveryInv s) (w : WindowId) :
    WindowInv (s.delivery.window w) (s.delivery.current = w) := by
  cases w with
  | a => exact h.windowA
  | b => exact h.windowB

/-- The window that is not current has no close pending. -/
theorem DeliveryInv.otherWindow (h : DeliveryInv s) : WindowInv (s.delivery.window s.delivery.current.other) false := by
  obtain ⟨hroom, hfilled, hpending⟩ := h.window s.delivery.current.other
  exact ⟨hroom, hfilled, fun hp => absurd (of_decide_eq_true (hpending hp).2).symm (WindowId.other_ne _)⟩

/-- A discarded record stays queued only under a frame with payload (R125). -/
theorem DeliveryInv.undiscarded (h : DeliveryInv s) (hf : ∀ f, s.frameUnderWay = some f → f.abandoned = true) :
    ∀ q ∈ s.delivery.queue, q.discarded = false := by
  intro q hq
  cases hqueue : s.delivery.queue with
  | nil => simp [hqueue] at hq
  | cons y ys =>
    rw [hqueue, List.mem_cons] at hq
    rcases hq with rfl | hq
    · refine Bool.eq_false_iff.mpr fun hd => ?_
      obtain ⟨f, hframe, ha⟩ := h.discarded q (by simp [hqueue]) hd
      simp [hf f hframe] at ha
    · exact h.discardedHead q (by simpa [hqueue] using hq)

/-- The Delivery Unit with no record frame in transmission. -/
structure DeliveryQuiet (d : DeliveryUnit) : Prop where
  windows : ∀ w, WindowInv (d.window w) (d.current = w)
  cells : ∀ q ∈ d.queue, q.cells ≠ []
  undiscarded : ∀ q ∈ d.queue, q.discarded = false
  position : d.queue = [] ∨ d.note.isSome → d.position = 0
  notPending : (d.window d.current).closePending = false

theorem DeliveryQuiet.inv (h : DeliveryQuiet s.delivery) (hf : s.frameUnderWay = none) : DeliveryInv s where
  windowA := h.windows .a
  windowB := h.windows .b
  cells := h.cells
  discardedHead q hq := h.undiscarded q (List.mem_of_mem_tail hq)
  discarded q hq hd := by simp [h.undiscarded q (List.mem_of_mem_head? hq)] at hd
  position := h.position
  frame f hf' := by simp [hf] at hf'
  abandoned f hf' := by simp [hf] at hf'
  pendingFrame hp := by simp [h.notPending] at hp

theorem DeliveryInv.quiet (h : DeliveryInv s) (hf : s.frameUnderWay = none) : DeliveryQuiet s.delivery where
  windows := h.window
  cells := h.cells
  undiscarded := h.undiscarded (by simp [hf])
  position := h.position
  notPending := Bool.eq_false_iff.mpr fun hp => by simpa [hf] using h.pendingFrame hp

/-- The Delivery Unit as a frame into its current window has ended, before the completion tests (R118, R120). -/
structure DeliveryEnded (d : DeliveryUnit) : Prop where
  filled : (d.window d.current).filled ≤ (d.window d.current).size
  opened : (d.window d.current).opened = true
  other : WindowInv (d.window d.current.other) false
  cells : ∀ q ∈ d.queue, q.cells ≠ []
  undiscarded : ∀ q ∈ d.queue, q.discarded = false
  position : d.queue = [] ∨ d.note.isSome → d.position = 0

/-- A window that closes keeps its fields in agreement. -/
theorem windowInv_closed {x : Window} (current : Bool) (h : x.filled ≤ x.size) :
    WindowInv { x with opened := false, closePending := false } current := ⟨by simp, h, by simp⟩

/-- After its completion the other window is the current one (R121). -/
theorem deliveryQuiet_completeWindow (early : Bool) (hfilled : (s.delivery.window s.delivery.current).filled ≤
      (s.delivery.window s.delivery.current).size)
    (hother : WindowInv (s.delivery.window s.delivery.current.other) false) (hcells : ∀ q ∈ s.delivery.queue, q.cells ≠ [])
    (hundiscarded : ∀ q ∈ s.delivery.queue, q.discarded = false)
    (hposition : s.delivery.queue = [] ∨ s.delivery.note.isSome → s.delivery.position = 0) :
    DeliveryQuiet (completeWindow s.delivery.current early s).delivery := by
  have hd : (completeWindow s.delivery.current early s).delivery =
      { s.delivery.setWindow s.delivery.current
          { s.delivery.window s.delivery.current with opened := false, closePending := false } with
        current := s.delivery.current.other } := by simp [completeWindow, finishWindow]
  rw [hd]
  refine ⟨fun w => ?_, by simpa using hcells, by simpa using hundiscarded, by simpa using hposition, ?_⟩
  · by_cases hw : w = s.delivery.current
    · subst hw
      rw [show ∀ d : DeliveryUnit, ({ d with current := s.delivery.current.other } : DeliveryUnit).window
        s.delivery.current = d.window s.delivery.current from fun d => window_congr rfl rfl _, window_setWindow]
      exact windowInv_closed _ hfilled
    · rw [WindowId.eq_other_of_ne hw]
      rw [show ∀ d : DeliveryUnit, ({ d with current := s.delivery.current.other } : DeliveryUnit).window
        s.delivery.current.other = d.window s.delivery.current.other from fun d => window_congr rfl rfl _,
        window_setWindow_of_ne (WindowId.other_ne _)]
      exact ⟨hother.openRoom, hother.filled, fun hp => by simpa using (hother.closePending hp).2⟩
  · rw [show ∀ d : DeliveryUnit, ({ d with current := s.delivery.current.other } : DeliveryUnit).window
        s.delivery.current.other = d.window s.delivery.current.other from fun d => window_congr rfl rfl _,
        window_setWindow_of_ne (WindowId.other_ne _)]
    exact Bool.eq_false_iff.mpr fun hp => by simpa using (hother.closePending hp).2

/-- The completion tests leave the window CLOSED, or open with room and no close pending (R120). -/
theorem deliveryQuiet_completionTests (last : Bool) (h : DeliveryEnded s.delivery) :
    DeliveryQuiet (completionTests s.delivery.current last s).delivery := by
  obtain ⟨hfilled, hopened, hother, hcells, hundiscarded, hposition⟩ := h
  unfold completionTests
  dsimp only
  split
  · exact deliveryQuiet_completeWindow _ hfilled hother hcells hundiscarded hposition
  · next hgoes =>
    simp only [not_or] at hgoes
    obtain ⟨hfull, -, hpending⟩ := hgoes
    refine ⟨fun w => ?_, hcells, hundiscarded, hposition, Bool.eq_false_iff.mpr hpending⟩
    by_cases hw : w = s.delivery.current
    · subst hw
      exact ⟨fun _ => Nat.lt_of_le_of_ne hfilled hfull, hfilled, fun hp => absurd hp hpending⟩
    · rw [WindowId.eq_other_of_ne hw]
      exact ⟨hother.openRoom, hother.filled, fun hp => by simpa using (hother.closePending hp).2⟩

/-- A window's fields may be replaced by fields that agree; of the current window with a frame under way only the pending
close may change. -/
theorem deliveryInv_putWindow (h : DeliveryInv s) {w : WindowId} {x : Window} (hx : WindowInv x (s.delivery.current = w))
    (hpending : w = s.delivery.current → x.closePending = true → s.frameUnderWay.isSome)
    (hframe : w = s.delivery.current → s.frameUnderWay.isSome → x.opened = (s.delivery.window w).opened ∧
      x.size = (s.delivery.window w).size ∧ x.filled = (s.delivery.window w).filled) :
    DeliveryInv (putWindow w x s) := by
  have hwindow (w' : WindowId) : (putWindow w x s).delivery.window w' = if w' = w then x else s.delivery.window w' := by
    by_cases hw : w' = w
    · rw [if_pos hw, hw, putWindow_delivery, window_setWindow]
    · rw [if_neg hw, putWindow_delivery, window_setWindow_of_ne hw]
  have hinv (w' : WindowId) : WindowInv ((putWindow w x s).delivery.window w') (s.delivery.current = w') := by
    rw [hwindow]
    split
    · next hw => exact hw ▸ hx
    · exact h.window w'
  have hkept : (putWindow w x s).delivery.queue = s.delivery.queue ∧
      (putWindow w x s).delivery.current = s.delivery.current ∧
      (putWindow w x s).delivery.position = s.delivery.position ∧
      (putWindow w x s).delivery.note = s.delivery.note := by simp
  obtain ⟨hqueue, hcurrent, hposition, hnote⟩ := hkept
  have hlane : (putWindow w x s).frameUnderWay = s.frameUnderWay := rfl
  have hsame (hf : s.frameUnderWay.isSome) (w' : WindowId) (hw' : w' = s.delivery.current) :
      ((putWindow w x s).delivery.window w').opened = (s.delivery.window w').opened ∧
      ((putWindow w x s).delivery.window w').size = (s.delivery.window w').size ∧
      ((putWindow w x s).delivery.window w').filled = (s.delivery.window w').filled := by
    rw [hwindow]
    split
    · next hw =>
      subst hw
      exact hframe hw' hf
    · exact ⟨rfl, rfl, rfl⟩
  refine ⟨hcurrent ▸ hinv .a, hcurrent ▸ hinv .b, hqueue ▸ h.cells, hqueue ▸ h.discardedHead, ?_, ?_, fun f hf ha => ?_,
    fun f hf ha => ?_, fun hp => ?_⟩
  · rw [hqueue, hlane]
    exact h.discarded
  · rw [hqueue, hnote, hposition]
    exact h.position
  · obtain ⟨⟨⟨hw, hopened⟩, hroom, hcount, hhead⟩, hn⟩ := h.frame f hf ha
    obtain ⟨ho, hs, hfi⟩ := hsame (by rw [← hlane, hf]; rfl) f.window hw
    refine ⟨⟨⟨hcurrent ▸ hw, ho ▸ hopened⟩, ?_, hcount, ?_⟩, hnote ▸ hn⟩
    · rw [hs, hfi]
      exact hroom
    · rw [hqueue, hposition]
      exact hhead
  · obtain ⟨hpayload, hlast, hn, hw, hopened⟩ := h.abandoned f hf ha
    obtain ⟨ho, -, -⟩ := hsame (by rw [← hlane, hf]; rfl) f.window hw
    exact ⟨hpayload, hlast, hnote ▸ hn, hcurrent ▸ hw, ho ▸ hopened⟩
  · rw [hcurrent, hwindow] at hp
    rw [hlane]
    split at hp
    · next hw => exact hpending hw.symm hp
    · exact h.pendingFrame hp

/-- A window opens only when it is CLOSED, so never under a frame (R115). -/
theorem deliveryInv_openWindowBody (r : Request) (h : DeliveryInv s) : DeliveryInv (openWindowBody r s) := by
  unfold openWindowBody
  split
  · split
    · split
      · exact h.of_delivery rfl rfl
      · next hw hn ht he hclosed =>
        obtain ⟨⟨hpos, -⟩, hsize⟩ := argIn_eq_some.mp hn
        refine DeliveryInv.of_delivery (s := putWindow _ _ s) (deliveryInv_putWindow h ⟨fun _ => ?_, Nat.zero_le _, by simp⟩ (by simp)
          fun hw hf => ?_) rfl rfl
        · simp only [hsize]
          omega
        · obtain ⟨f, hf⟩ := Option.isSome_iff_exists.mp hf
          have hopened : (s.delivery.window s.delivery.current).opened = true := by
            cases ha : f.abandoned with
            | false =>
              obtain ⟨⟨⟨hfw, hopened⟩, -⟩, -⟩ := h.frame f hf ha
              exact hfw ▸ hopened
            | true =>
              obtain ⟨-, -, -, hfw, hopened⟩ := h.abandoned f hf ha
              exact hfw ▸ hopened
          exact absurd (hw ▸ hopened) hclosed
    · exact h.of_delivery rfl rfl
  · exact h.of_delivery rfl rfl

/-- A close waits for the frame under way, or closes a window no frame goes into (R122). -/
theorem deliveryInv_closeOpenWindow {w : WindowId} (h : DeliveryInv s) (hopened : (s.delivery.window w).opened = true) :
    DeliveryInv (closeOpenWindow w s) := by
  have hw := h.window w
  unfold closeOpenWindow
  split
  · next hc =>
    split
    · next hf =>
      exact deliveryInv_putWindow h ⟨hw.openRoom, hw.filled, fun _ => ⟨hopened, by simp [hc]⟩⟩ (fun _ _ => hf)
        fun _ _ => ⟨rfl, rfl, rfl⟩
    · next hf =>
      have hf : s.frameUnderWay = none := Option.not_isSome_iff_eq_none.mp hf
      have hq := h.quiet hf
      subst hc
      refine DeliveryQuiet.inv
        (deliveryQuiet_completeWindow _ hw.filled h.otherWindow hq.cells hq.undiscarded hq.position) ?_
      rw [← hf]
      simp [State.frameUnderWay]
  · next hc =>
    have hput := deliveryInv_putWindow h (w := w) (windowInv_closed _ hw.filled) (by simp) fun he => absurd he hc
    exact hput.of_delivery (by simp [finishWindow]) (by simp [finishWindow])

theorem deliveryInv_closeWindowBody (r : Request) (h : DeliveryInv s) : DeliveryInv (closeWindowBody r s) := by
  unfold closeWindowBody
  split
  · split
    · split
      · next hopened => exact (deliveryInv_closeOpenWindow h hopened).of_delivery rfl rfl
      · exact h.of_delivery rfl rfl
    · exact h.of_delivery rfl rfl
  · exact h.of_delivery rfl rfl

/-! ## The end of a record frame (R118, R120, R125) -/

/-- Clearing the lane of its record frame leaves what the frame's own agreement said of the head record. -/
theorem deliveryEnded_of_abandoned {f : RecordFrame} (h : DeliveryInv s) (hf : s.frameUnderWay = some f)
    (ha : f.abandoned = true) : DeliveryEnded { s.delivery with note := none } := by
  obtain ⟨-, -, hnote, hw, hopened⟩ := h.abandoned f hf ha
  have hwindow (w : WindowId) : ({ s.delivery with note := none } : DeliveryUnit).window w = s.delivery.window w :=
    window_congr rfl rfl w
  refine ⟨?_, ?_, ?_, h.cells, h.undiscarded fun f' hf' => ?_, fun _ => h.position (.inr hnote)⟩
  · rw [hwindow]
    exact (h.window _).filled
  · rw [hwindow]
    exact hw ▸ hopened
  · rw [hwindow]
    exact h.otherWindow
  · rw [hf, Option.some.injEq] at hf'
    exact hf' ▸ ha

/-- What the current window gets when the frame under way ends (R118 step 1). -/
def DeliveryUnit.filledBy (d : DeliveryUnit) (f : RecordFrame) : DeliveryUnit :=
  d.setWindow f.window { d.window f.window with filled := (d.window f.window).filled + f.payload.length }

/-- With a payload that fits, the frame's window stays within its size and the head record moves on (R118). -/
theorem deliveryEnded_of_payload {f : RecordFrame} {u : State} (h : DeliveryInv s) (hf : s.frameUnderWay = some f)
    (ha : f.abandoned = false) (hu : u.delivery = s.delivery.filledBy f) : DeliveryEnded (advanceHead f u).delivery := by
  obtain ⟨⟨⟨hw, hopened⟩, hroom, -, q, rest, hq, -, -, -, -, hlast, hmore, hwhole⟩, hnote⟩ := h.frame f hf ha
  have hqueue : u.delivery.queue = q :: rest := by simp [hu, DeliveryUnit.filledBy, hq]
  have hcurrent : u.delivery.current = f.window := by simp [hu, DeliveryUnit.filledBy, hw]
  have hnone : u.delivery.note = none := by simp [hu, DeliveryUnit.filledBy, hnote]
  have htail : ∀ x ∈ rest, x.cells ≠ [] ∧ x.discarded = false := fun x hx =>
    ⟨h.cells x (by simp [hq, hx]), h.discardedHead x (by simp [hq, hx])⟩
  have ended (d : DeliveryUnit) (hA : d.windowA = u.delivery.windowA) (hB : d.windowB = u.delivery.windowB)
      (hc : d.current = u.delivery.current) (hqueued : ∀ x ∈ d.queue, x.cells ≠ [] ∧ x.discarded = false)
      (hposition : d.queue = [] ∨ d.note.isSome → d.position = 0) : DeliveryEnded d := by
    have hwindow (w : WindowId) : d.window w = (s.delivery.filledBy f).window w := hu ▸ window_congr hA hB w
    refine ⟨?_, ?_, ?_, fun x hx => (hqueued x hx).1, fun x hx => (hqueued x hx).2, hposition⟩
    · rw [hwindow, hc, hcurrent, DeliveryUnit.filledBy, window_setWindow]
      exact hroom
    · rw [hwindow, hc, hcurrent, DeliveryUnit.filledBy, window_setWindow]
      exact hopened
    · rw [hwindow, hc, hcurrent, DeliveryUnit.filledBy, window_setWindow_of_ne (WindowId.other_ne _), hw]
      exact h.otherWindow
  cases hl : f.last with
  | true =>
    rw [advanceHead_of_last hqueue hl]
    exact ended _ rfl rfl rfl htail fun _ => rfl
  | false =>
    cases hd : q.discarded with
    | true =>
      rw [advanceHead_of_discarded hqueue hl hd]
      exact ended _ rfl rfl rfl htail fun _ => rfl
    | false =>
      rw [advanceHead_of_not_last hqueue hl hd]
      refine ended _ rfl rfl rfl (fun x hx => ?_) fun hn => by simp [hnone] at hn
      rcases List.mem_cons.mp hx with rfl | hx
      · have hlt := hmore hl hd
        exact ⟨by simpa using hlt, hd⟩
      · exact htail x hx

/-- The end of the frame under way leaves a Delivery Unit with no frame, its windows and queue in agreement. -/
theorem deliveryQuiet_recordFrameEnded {f : RecordFrame} {u : State} (h : DeliveryInv s) (hf : s.frameUnderWay = some f)
    (hu : u.delivery = s.delivery) : DeliveryQuiet (recordFrameEnded f u).delivery := by
  cases ha : f.abandoned with
  | true =>
    obtain ⟨-, -, -, hw, -⟩ := h.abandoned f hf ha
    rw [recordFrameEnded_of_abandoned ha, hw, ← hu]
    refine deliveryQuiet_completionTests (s := { u with delivery.note := none }) true ?_
    exact hu ▸ deliveryEnded_of_abandoned h hf ha
  | false =>
    obtain ⟨⟨⟨hw, -⟩, -⟩, -⟩ := h.frame f hf ha
    rw [recordFrameEnded_of_payload ha]
    generalize hu' : ({ u with
      memory.free := u.memory.free + f.payload.length
      delivery := u.delivery.setWindow f.window
        { u.delivery.window f.window with filled := (u.delivery.window f.window).filled + f.payload.length } } : State) = u'
    have hfilled : u'.delivery = s.delivery.filledBy f := by rw [← hu', ← hu]; rfl
    have hcurrent : (advanceHead f u').delivery.current = f.window := by simp [hfilled, DeliveryUnit.filledBy, hw]
    rw [← hcurrent]
    exact deliveryQuiet_completionTests _ (deliveryEnded_of_payload h hf ha hfilled)

theorem deliveryQuiet_downFrameEnded (h : DeliveryInv s) : DeliveryQuiet (downFrameEnded s).delivery := by
  match hf : s.frameUnderWay with
  | some f =>
    rw [downFrameEnded_of_record hf]
    exact deliveryQuiet_recordFrameEnded h hf rfl
  | none =>
    rw [downFrameEnded_of_other hf]
    exact h.quiet hf

theorem frameUnderWay_of_lane_none (hl : s.deliveryPort.lane = none) : s.frameUnderWay = none := by
  rw [State.frameUnderWay, hl]

theorem deliveryInv_downFrameEnded (h : DeliveryInv s) : DeliveryInv (downFrameEnded s) :=
  (deliveryQuiet_downFrameEnded h).inv (frameUnderWay_of_lane_none (downFrameEnded_port s).1)

theorem deliveryInv_recordEnds (h : DeliveryInv s) : DeliveryInv (recordEnds s) := by
  unfold recordEnds
  split
  · exact deliveryInv_downFrameEnded h
  all_goals exact h

theorem deliveryInv_otherFrameEnds (p : Port) (h : DeliveryInv s) : DeliveryInv (otherFrameEnds p s) := by
  unfold otherFrameEnds
  cases p with
  | intake =>
    dsimp only
    split
    · exact h.of_delivery (by simp) (by simp)
    all_goals exact h
  | delivery =>
    dsimp only
    split
    · exact deliveryInv_downFrameEnded h
    · exact deliveryInv_downFrameEnded h
    · exact deliveryInv_downFrameEnded h
    all_goals exact h

/-! ## The links (R163, R174, R175) -/

theorem deliveryInv_setDeliveryLink (l : Link) (h : DeliveryInv s) : DeliveryInv (setDeliveryLink l s) := by
  by_cases hdrop : s.deliveryPort.link.state = .up ∧ l.state = .down
  · rw [setDeliveryLink_of_drop hdrop.1 hdrop.2]
    have hlinked : DeliveryInv { s with deliveryPort.link := l } := h.of_delivery rfl rfl
    exact (deliveryInv_downFrameEnded hlinked).of_delivery rfl rfl
  · rw [setDeliveryLink_of_no_drop hdrop]
    exact h.of_delivery rfl rfl

/-- What keeps the agreement of the Delivery Unit with its lane, and leaves the lane, keeps the invariant. -/
theorem DeliveryInv.of_agrees {t : State} (h : DeliveryInv s)
    (ht : DeliveryAgrees s.delivery s.deliveryPort.lane → DeliveryAgrees t.delivery s.deliveryPort.lane)
    (hl : t.deliveryPort.lane = s.deliveryPort.lane) : DeliveryInv t :=
  (deliveryInv_iff t).mpr (hl ▸ ht ((deliveryInv_iff s).mp h))

theorem deliveryInv_setLink (p : Port) (l : Link) (h : DeliveryInv s) : DeliveryInv (setLink p l s) := by
  cases p with
  | intake => exact h.of_agrees (deliveryAgrees_setIntakeLink l) (by simp [setLink])
  | delivery => exact deliveryInv_setDeliveryLink l h

theorem deliveryInv_receiveBadFrame (p : Port) (h : DeliveryInv s) : DeliveryInv (receiveBadFrame p s) := by
  rw [receiveBadFrame_eq]
  split
  · exact deliveryInv_setLink _ _ (h.of_delivery (by simp) (by simp))
  · exact deliveryInv_setLink _ _ h

theorem deliveryInv_receiveSample (f : SampleFrame) (h : DeliveryInv s) : DeliveryInv (receiveSample f s) := by
  have hlink := deliveryInv_setLink .intake (s.link .intake).good h
  exact receiveGoodFrame_of hlink fun _ => hlink.of_agrees (deliveryAgrees_matchReply f) (by simp)

theorem deliveryInv_receiveIntakeFrame (f : RawFrame) (h : DeliveryInv s) : DeliveryInv (receiveIntakeFrame f s) := by
  have hlink := deliveryInv_setLink .intake (s.link .intake).good h
  unfold receiveIntakeFrame
  split
  · split
    · split
      · exact deliveryInv_receiveSample _ h
      · exact deliveryInv_receiveBadFrame _ h
    · exact receiveGoodFrame_of hlink fun _ => hlink.of_delivery (by simp) (by simp)
  · exact deliveryInv_receiveBadFrame _ h

theorem deliveryInv_receiveRequest (r : Request) (h : DeliveryInv s) : DeliveryInv (receiveRequest r s) := by
  have hlink := deliveryInv_setLink .delivery (s.link .delivery).good h
  unfold receiveRequest
  split
  · exact receiveGoodFrame_of hlink fun _ => hlink.of_delivery (by simp) (by simp)
  · exact deliveryInv_receiveBadFrame _ h

theorem deliveryInv_frameWhileAligning (p : Port) (good : Bool) (h : DeliveryInv s) :
    DeliveryInv (frameWhileAligning p good s) := by
  unfold frameWhileAligning goodReception badReception
  (repeat' split)
  · exact deliveryInv_setLink _ _ h
  · exact deliveryInv_setLink _ _ h
  · exact h

/-! ## A grant of the record source (R116, R117, R125) -/

/-- A frame goes onto the lane of a Delivery Unit that had none there. -/
theorem DeliveryQuiet.inv_of_frame {f : RecordFrame} (h : DeliveryQuiet s.delivery) (hf : s.frameUnderWay = some f)
    (hframe : f.abandoned = false → FrameInv s f ∧ s.delivery.note = none)
    (habandoned : f.abandoned = true → f.payload = [] ∧ f.last = true ∧ s.delivery.note.isSome ∧
      f.window = s.delivery.current ∧ (s.delivery.window f.window).opened = true) : DeliveryInv s where
  windowA := h.windows .a
  windowB := h.windows .b
  cells := h.cells
  discardedHead q hq := h.undiscarded q (List.mem_of_mem_tail hq)
  discarded q hq hd := by simp [h.undiscarded q (List.mem_of_mem_head? hq)] at hd
  position := h.position
  frame f' hf' ha := by
    rw [hf, Option.some.injEq] at hf'
    subst hf'
    exact hframe ha
  abandoned f' hf' ha := by
    rw [hf, Option.some.injEq] at hf'
    subst hf'
    exact habandoned ha
  pendingFrame hp := by simp [h.notPending] at hp

/-- The frame a grant builds agrees with the head record and the current window (R117). -/
theorem frameInv_headFrame {q : QueuedRecord} {rest : List QueuedRecord} (hq : s.delivery.queue = q :: rest)
    (hcells : q.cells ≠ []) (hd : q.discarded = false) (hopened : (s.delivery.window s.delivery.current).opened = true)
    (hroom : (s.delivery.window s.delivery.current).filled < (s.delivery.window s.delivery.current).size) :
    FrameInv s (headFrame s.delivery q) := by
  have hpos : 0 < q.cells.length := List.length_pos_iff.mpr hcells
  have hlen : (headFrame s.delivery q).payload.length = min 32 (min q.cells.length
      ((s.delivery.window s.delivery.current).size - (s.delivery.window s.delivery.current).filled)) := by
    simp only [headFrame, List.length_take, Config.framePayload]
    omega
  have hlast : (headFrame s.delivery q).last = decide ((headFrame s.delivery q).payload.length = q.cells.length) := by
    rw [hlen]
    rfl
  refine ⟨⟨rfl, hopened⟩, ?_, ⟨by omega, by omega⟩, q, rest, hq, rfl, rfl, ?_, by omega, fun hl => ?_, fun hl _ => ?_,
    fun hdt => by simp [hd] at hdt⟩
  · rw [hlen]
    simp only [headFrame]
    omega
  · rw [hlen]
    rfl
  · rw [hlast, decide_eq_true_eq] at hl
    exact ⟨hl, hd⟩
  · rw [hlast, decide_eq_false_iff_not] at hl
    omega

theorem deliveryInv_grantRecord (h : DeliveryInv s) (ho : s.offersRecord = true) : DeliveryInv (grantRecord s) := by
  obtain ⟨hnone, -, ⟨hopened, -⟩, hsource⟩ := (offersRecord_iff s).mp ho
  have hq := h.quiet hnone
  match hn : s.delivery.note with
  | some note =>
    rw [grantRecord_of_some (nextFrame_of_note hn)]
    exact DeliveryQuiet.inv_of_frame hq rfl (fun ha => by simp [abandonedFrame] at ha) fun _ =>
      ⟨rfl, rfl, by simp [startDown, hn], rfl, hopened⟩
  | none =>
    obtain ⟨q, rest, hqueue⟩ := List.exists_cons_of_ne_nil (hsource.resolve_right fun hx => hx hn)
    rw [grantRecord_of_some (nextFrame_of_head hn hqueue)]
    refine DeliveryQuiet.inv_of_frame hq rfl (fun _ => ⟨?_, hn⟩) fun ha => by simp [headFrame] at ha
    exact frameInv_headFrame (s := startDown (.record (headFrame s.delivery q)) 0 s) hqueue (h.cells q (by simp [hqueue]))
      (hq.undiscarded q (by simp [hqueue])) hopened ((h.window _).openRoom hopened)

/-- A frame of another source takes a lane that was free, so none of the record source's is in transmission. -/
theorem deliveryInv_chooseDown (h : DeliveryInv s) (hfree : s.downLaneFree = true) : DeliveryInv (chooseDown s) := by
  obtain ⟨-, hlane, -⟩ := (downLaneFree_iff s).mp hfree
  have hq := h.quiet (frameUnderWay_of_lane_none hlane)
  have other {f : DownFrame} {turn : Nat} {u : State} (hu : u.delivery = s.delivery) (hf : ∀ r, f ≠ .record r) :
      DeliveryInv (startDown f turn u) := by
    refine DeliveryQuiet.inv (hu ▸ hq) ?_
    cases f with
    | record r => exact absurd rfl (hf r)
    | _ => rfl
  unfold chooseDown
  split
  · next hdue => exact deliveryInv_grantRecord h hdue.1
  · split
    · exact other rfl (by simp)
    · split
      · exact other rfl (by simp)
      · split
        · exact other rfl (by simp)
        · split
          · next hoffer => exact deliveryInv_grantRecord h hoffer
          · exact h

theorem deliveryInv_settle (h : DeliveryInv s) : DeliveryInv (settle s) := by
  have hchoice : DeliveryInv (downChoice (arbitrateUp s)) := by
    unfold downChoice
    split
    · exact h.of_delivery (by simp) (by simp)
    · exact h.of_delivery (by simp) (by simp)
  rw [settle, arbitrateDown_eq]
  split
  · next hfree => exact deliveryInv_chooseDown hchoice hfree
  · exact hchoice

/-! ## DISCARD_RECORD (R124, R125) -/

/-- Records behind the head may leave the queue, and so may a head record that is not started. -/
theorem deliveryInv_leaveQueue {t : State} {l : List QueuedRecord} (h : DeliveryInv s)
    (hd : t.delivery = { s.delivery with queue := l }) (hl : t.deliveryPort.lane = s.deliveryPort.lane)
    (hmem : ∀ x ∈ l, x ∈ s.delivery.queue) (htail : ∀ x ∈ l.tail, x ∈ s.delivery.queue.tail)
    (hhead : l.head? = s.delivery.queue.head? ∨
      s.delivery.position = 0 ∧ ∀ f, s.frameUnderWay = some f → f.abandoned = true) : DeliveryInv t := by
  have hf : t.frameUnderWay = s.frameUnderWay := by unfold State.frameUnderWay; rw [hl]
  have hwindow (w : WindowId) : t.delivery.window w = s.delivery.window w := by
    rw [hd]
    exact window_congr rfl rfl w
  have hqueue : t.delivery.queue = l := by rw [hd]
  have hcurrent : t.delivery.current = s.delivery.current := by rw [hd]
  have hposition : t.delivery.position = s.delivery.position := by rw [hd]
  have hnote : t.delivery.note = s.delivery.note := by rw [hd]
  refine ⟨?_, ?_, fun x hx => h.cells x (hmem x (hqueue ▸ hx)), fun x hx => h.discardedHead x (htail x (hqueue ▸ hx)),
    fun x hx hdx => ?_, fun hp => ?_, fun f hfr ha => ?_, fun f hfr ha => ?_, fun hp => ?_⟩
  · rw [hd]
    exact h.windowA
  · rw [hd]
    exact h.windowB
  · rw [hqueue] at hx
    rw [hf]
    rcases hhead with hsame | ⟨-, habandoned⟩
    · exact h.discarded x (hsame ▸ hx) hdx
    · simp [h.undiscarded habandoned x (hmem x (List.mem_of_mem_head? hx))] at hdx
  · rw [hqueue, hnote] at hp
    rw [hposition]
    rcases hhead with hsame | ⟨hzero, -⟩
    · refine h.position (hp.imp_left fun hnil => ?_)
      rw [hnil, List.head?_nil] at hsame
      exact List.head?_eq_none_iff.mp hsame.symm
    · exact hzero
  · rw [hf] at hfr
    obtain ⟨⟨hw, hroom, hcount, q, rest, hq, hrest⟩, hn⟩ := h.frame f hfr ha
    rcases hhead with hsame | ⟨-, habandoned⟩
    · rw [hq, List.head?_cons] at hsame
      obtain ⟨ys, hys⟩ := List.head?_eq_some_iff.mp hsame
      refine ⟨⟨?_, ?_, hcount, q, ys, ?_, ?_⟩, hnote.trans hn⟩
      · rw [hwindow, hcurrent]
        exact hw
      · rw [hwindow]
        exact hroom
      · rw [hqueue, hys]
      · rw [hposition]
        exact hrest
    · simp [habandoned f hfr] at ha
  · rw [hwindow, hcurrent, hnote]
    exact h.abandoned f (hf ▸ hfr) ha
  · rw [hwindow, hcurrent] at hp
    rw [hf]
    exact h.pendingFrame hp

/-- While a frame of it that is not its LAST is in transmission, the head record keeps just that frame's cells (R125). -/
theorem deliveryInv_discardUnderFrame {f : RecordFrame} {q : QueuedRecord} {rest : List QueuedRecord} (h : DeliveryInv s)
    (hq : s.delivery.queue = q :: rest) (hf : s.frameUnderWay = some f) (ha : f.abandoned = false) (hl : f.last = false) :
    DeliveryInv (discardStartedHead q rest s) := by
  obtain ⟨⟨hw, hroom, hcount, q', rest', hq', hid, hoffset, hpayload, hle, -, -, -⟩, hnote⟩ := h.frame f hf ha
  obtain ⟨rfl, rfl⟩ : q' = q ∧ rest' = rest := by simpa [hq'] using hq
  have hlen : (q'.cells.take f.payload.length).length = f.payload.length := by simpa using hle
  rw [discardStartedHead_of_not_last q' rest' s hf ha hl]
  refine ⟨h.windowA, h.windowB, fun x hx => ?_, fun x hx => h.discardedHead x (by simpa [hq'] using hx),
    fun x hx _ => ⟨f, hf, ha⟩, fun hp => ?_, fun f' hf' ha' => ?_, h.abandoned, h.pendingFrame⟩
  · rcases List.mem_cons.mp hx with rfl | hx
    · exact List.ne_nil_of_length_pos (by simp only [hlen]; omega)
    · exact h.cells x (by simp [hq', hx])
  · exact h.position (.inr (by simpa using hp))
  · have hf'' : s.frameUnderWay = some f' := hf'
    rw [hf, Option.some.injEq] at hf''
    subst hf''
    refine ⟨⟨hw, hroom, hcount, _, rest', rfl, hid, hoffset, ?_, Nat.le_of_eq hlen.symm, ?_, ?_, fun _ => hlen.symm⟩, hnote⟩
    · simpa [List.take_take] using hpayload
    · simp [hl]
    · simp

/-- A started head record leaves at the end of its frame, or at once for its abandonment note (R125). -/
theorem deliveryInv_discardStartedHead {q : QueuedRecord} {rest : List QueuedRecord} (h : DeliveryInv s)
    (hq : s.delivery.queue = q :: rest) (hs : s.headStarted = true) : DeliveryInv (discardStartedHead q rest s) := by
  match hf : s.frameUnderWay with
  | some f =>
    cases ha : f.abandoned with
    | true =>
      obtain ⟨-, -, hnote, -⟩ := h.abandoned f hf ha
      rcases (headStarted_iff s).mp hs with hpos | ⟨f', hf', ha'⟩
      · simp [h.position (.inr hnote)] at hpos
      · rw [hf, Option.some.injEq] at hf'
        simp [← hf', ha] at ha'
    | false =>
      cases hl : f.last with
      | true =>
        rw [discardStartedHead_of_last q rest s hf ha hl]
        exact h
      | false => exact deliveryInv_discardUnderFrame h hq hf ha hl
  | none =>
    rw [discardStartedHead_of_no_frame q rest s hf]
    obtain ⟨hwindows, hcells, hundiscarded, -, hpending⟩ := h.quiet hf
    refine DeliveryQuiet.inv ⟨fun w => ?_, fun x hx => hcells x (by simpa [hq] using .inr hx),
      fun x hx => hundiscarded x (by simpa [hq] using .inr hx), fun _ => rfl, ?_⟩ hf
    · exact hwindows w
    · exact hpending

theorem deliveryInv_discardById (id : BitVec 16) (h : DeliveryInv s) : DeliveryInv (discardById id s).2 := by
  match hsplit : splitAtId id s.delivery.queue with
  | none =>
    simp only [discardById, hsplit]
    (repeat' split) <;> exact h
  | some (before, q, after) =>
    obtain ⟨hqueue, hid, hbefore⟩ := splitAtId_eq_some hsplit
    by_cases hstarted : before = [] ∧ s.headStarted = true
    · obtain ⟨rfl, hs⟩ := hstarted
      rw [discardById_of_started hqueue hid hs]
      exact deliveryInv_discardStartedHead h hqueue hs
    · have hother : before ≠ [] ∨ ¬ s.headStarted = true := not_and_or.mp hstarted
      rw [discardById_of_not_started hqueue hbefore hid hother]
      refine deliveryInv_leaveQueue h rfl rfl (fun x hx => ?_) (fun x hx => ?_) ?_
      · rw [hqueue]
        rcases List.mem_append.mp hx with hx | hx <;> simp [hx]
      · rw [hqueue]
        cases before with
        | nil => exact List.mem_of_mem_tail hx
        | cons b bs =>
          simp only [List.cons_append, List.tail_cons, List.mem_append, List.mem_cons] at hx ⊢
          exact hx.imp_right .inr
      · rw [hqueue]
        cases before with
        | nil =>
          have hnot := mt (headStarted_iff s).mpr (hother.resolve_left (by simp))
          rw [not_or, not_exists] at hnot
          obtain ⟨hzero, hframes⟩ := hnot
          exact .inr ⟨Nat.eq_zero_of_not_pos hzero, fun f hf => by
            simpa using fun ha => hframes f ⟨hf, ha⟩⟩
        | cons b bs => exact .inl rfl

theorem deliveryInv_discardRecordBody (r : Request) (h : DeliveryInv s) : DeliveryInv (discardRecordBody r s) := by
  unfold discardRecordBody
  split
  · split
    · exact (deliveryInv_discardById _ h).of_delivery rfl rfl
    · exact h.of_delivery rfl rfl
  · exact h.of_delivery rfl rfl

/-! ## The resets (R128, R160) -/

/-- RESET_ENGINE completes with both lanes quiet, so it leaves an empty queue, closed windows and no frame. -/
theorem deliveryInv_resetCompletes (h : DeliveryInv s) : DeliveryInv (resetCompletes s) := by
  unfold resetCompletes
  split
  · split
    · next hquiet =>
      have hlane : s.deliveryPort.lane = none := by
        simp only [State.lanesQuiet, Bool.and_eq_true, Option.isNone_iff_eq_none] at hquiet
        exact hquiet.2
      have closed (w : WindowId) (current : Bool) : WindowInv (s.delivery.window w).resetEngine current :=
        windowInv_closed current (h.window w).filled
      refine DeliveryQuiet.inv ⟨fun w => ?_, by simp [respond, resetBlocks, DeliveryUnit.resetEngine],
        by simp [respond, resetBlocks, DeliveryUnit.resetEngine], fun _ => rfl, rfl⟩ (frameUnderWay_of_lane_none hlane)
      cases w with
      | a => exact closed .a _
      | b => exact closed .b _
    · exact h
  all_goals exact h

/-! ## Every command -/

theorem deliveryInv_effect (c : Instr) (h : DeliveryInv s) : DeliveryInv (effect c s) := by
  have hpop : DeliveryInv (popRequest s) := h.of_delivery (by simp) (by simp)
  have agrees := (deliveryInv_iff s).mp h
  have seen (lines : Lines) : DeliveryInv (seeLines lines s) := h.of_delivery rfl rfl
  cases c with
  | startRun lines =>
    exact executeFront_of h fun r _ => hpop.of_agrees (deliveryAgrees_startRunBody lines r) (by simp)
  | stopRun => exact executeFront_of h fun r _ => hpop.of_agrees (deliveryAgrees_stopRunBody r) (by simp)
  | disarm => exact executeFront_of h fun r _ => hpop.of_agrees (deliveryAgrees_disarmBody r) (by simp)
  | openWindow => exact executeFront_of h fun r _ => deliveryInv_openWindowBody r hpop
  | closeWindow => exact executeFront_of h fun r _ => deliveryInv_closeWindowBody r hpop
  | discardRecord => exact executeFront_of h fun r _ => deliveryInv_discardRecordBody r hpop
  | echo | readStatus | setParameter | getParameter | writeProgramEntry | readProgramEntry | writeCondition
  | readCondition | forceTrigger | arm | clearHalt | readCounters | resetEngine =>
    exact h.of_delivery (executeFront_frame (·.delivery) (by simp) (by simp))
      (executeFront_frame (·.deliveryPort.lane) (by simp) (by simp))
  | unknownRequestKind | spacingTimerExpiry | quarantineExpiry | trigoutPulseExpiry | convertSent =>
    exact h.of_delivery (by simp [effect]) (by simp [effect])
  | requestArrival r => exact deliveryInv_receiveRequest r h
  | sampleReceived f lines => exact deliveryInv_receiveSample f (seen lines)
  | passbackReceived f => exact deliveryInv_receiveIntakeFrame f h
  | badFrame p lines => exact deliveryInv_receiveBadFrame p (seen lines)
  | idleAlignmentSequence p => exact deliveryInv_setLink _ _ h
  | goodIdleGroup p => exact deliveryInv_setLink _ _ h
  | malformedIdleGroup p lines => exact deliveryInv_setLink _ _ (seen lines)
  | lossOfSignal p lines => exact deliveryInv_setLink _ _ (seen lines)
  | frameReceivedWhileAligning p good => exact deliveryInv_frameWhileAligning p good h
  | pacerExpiry lines => exact (seen lines).of_agrees deliveryAgrees_pacerExpires (by simp [effect])
  | sweepStartEdge level lines => exact (seen lines).of_agrees (deliveryAgrees_startLineLevel level) (by simp [effect])
  | requestTimeout tag lines => exact (seen lines).of_agrees (deliveryAgrees_requestTimesOut _) (by simp [effect])
  | recordFrameEnd => exact deliveryInv_recordEnds h
  | frameTransmissionEnd p => exact deliveryInv_otherFrameEnds p h
  | resetEffects => exact deliveryInv_resetCompletes h
  | hardReset straps level => exact (inv_afterReset (nodeOfStraps straps) level).delivery.of_delivery rfl rfl

end

/-- Settles O11: the record frames' starts and ends, the windows and the discards each keep the agreement. -/
theorem deliveryAgreesWithItsWindows : Obligations.DeliveryAgreesWithItsWindows := by
  unfold Obligations.DeliveryAgreesWithItsWindows
  exact step_keeps (P := DeliveryInv) (fun _ _ h => h.of_delivery rfl rfl) (fun c _ => deliveryInv_effect c)
    (fun _ => deliveryInv_settle) (fun _ h => h.of_delivery (by simp) (by simp))

end Sys2Proof.Machine
end

section
/-! PROOFS. Every step keeps the tags, the in-flight table and the CONVERT frames in agreement (02): O10. -/

namespace Sys2Proof.Machine

/-! ## What the invariant speaks of -/

/-- The invariant of the Request Tracker without its cursor: the tags, the in-flight table and the CONVERT frames. -/
structure TagsInv (k : RequestTracker) (lane : Option UpFrame) (limit : Nat) : Prop where
  tagCount : k.tags.length = 32
  tagRange : ∀ e ∈ k.inFlight, e.tag < 32
  tagsDistinct : (k.inFlight.map (·.tag)).Nodup
  tagsAgree : ∀ t, k.tags[t]? = some .inFlight ↔ ∃ e ∈ k.inFlight, e.tag = t
  limit : k.inFlight.length ≤ limit
  lastTag : k.lastTag < 32
  waiting : (k.inFlight.filter (fun e => e.remaining.isNone)).map (·.tag) =
    UpFrame.convertTags lane ++ k.converts.map (·.tag)

/-- The cursor's part of the invariant. -/
def CursorInv (s : State) : Prop := ∀ i, s.tracker.cursor = some i → i < s.params.programLength ∧ s.intake.link.state = .up

theorem trackerInv_iff (s : State) :
    TrackerInv s ↔ TagsInv s.tracker s.intake.lane s.params.inflightLimit ∧ CursorInv s :=
  ⟨fun ⟨h1, h2, h3, h4, h5, h6, h7, h8⟩ => ⟨⟨h1, h2, h3, h4, h5, h6, h8⟩, h7⟩,
    fun ⟨⟨h1, h2, h3, h4, h5, h6, h8⟩, h7⟩ => ⟨h1, h2, h3, h4, h5, h6, h7, h8⟩⟩

theorem CursorInv.of_none {s : State} (h : s.tracker.cursor = none) : CursorInv s := fun i hi => by simp [h] at hi

theorem TagsInv.of_eq {k k' : RequestTracker} {lane : Option UpFrame} {limit : Nat} (h : TagsInv k lane limit)
    (htags : k'.tags = k.tags) (hinFlight : k'.inFlight = k.inFlight) (hlast : k'.lastTag = k.lastTag)
    (hconverts : k'.converts = k.converts) : TagsInv k' lane limit := by
  obtain ⟨h1, h2, h3, h4, h5, h6, h7⟩ := h
  rw [← htags] at h1 h4
  rw [← hinFlight] at h2 h3 h4 h5 h7
  rw [← hlast] at h6
  rw [← hconverts] at h7
  exact ⟨h1, h2, h3, h4, h5, h6, h7⟩

theorem TrackerInv.of_eq {s t : State} (h : TrackerInv s) (htracker : t.tracker = s.tracker)
    (hparams : t.params = s.params) (hlink : t.intake.link = s.intake.link) (hlane : t.intake.lane = s.intake.lane) :
    TrackerInv t := by
  simp only [trackerInv_iff, CursorInv, htracker, hparams, hlink, hlane]
  exact (trackerInv_iff s).mp h

theorem RunInv.of_eq {s t : State} (h : RunInv s) (hsweeper : t.sweeper = s.sweeper)
    (hdeferred : t.manager.deferred = s.manager.deferred) (hcursor : t.tracker.cursor = s.tracker.cursor)
    (hinFlight : t.tracker.inFlight = s.tracker.inFlight) : RunInv t := by
  obtain ⟨h1, h2, h3, h4, h5, h6, h7, h8⟩ := h
  rw [← hsweeper] at h1 h2 h3 h4 h5 h6
  rw [← hdeferred] at h6
  rw [← hsweeper, ← hcursor, ← hinFlight] at h7 h8
  exact ⟨h1, h2, h3, h4, h5, h6, h7, h8⟩

/-! ## The in-flight table (R27) -/

section
variable {k : RequestTracker} {lane : Option UpFrame} {limit : Nat}

/-- A tag names one entry. -/
theorem TagsInv.entry_unique (h : TagsInv k lane limit) {e e' : InFlight} (he : e ∈ k.inFlight) (he' : e' ∈ k.inFlight)
    (htag : e.tag = e'.tag) : e = e' := List.inj_on_of_nodup_map h.tagsDistinct he he' htag

/-- An entry that leaves the table takes its tag with it. -/
theorem TagsInv.erase_eq_filter (h : TagsInv k lane limit) {e : InFlight} (he : e ∈ k.inFlight) :
    k.inFlight.erase e = k.inFlight.filter (fun x => x.tag ≠ e.tag) := by
  rw [(List.Nodup.of_map _ h.tagsDistinct).erase_eq_filter]
  refine List.filter_congr fun x hx => ?_
  have : x = e ↔ x.tag = e.tag := ⟨fun hxe => hxe ▸ rfl, h.entry_unique hx he⟩
  by_cases hxe : x = e <;> simp [← this, hxe]

/-- The tags that wait to send are distinct. -/
theorem TagsInv.waiting_nodup (h : TagsInv k lane limit) :
    (UpFrame.convertTags lane ++ k.converts.map (·.tag)).Nodup := by
  rw [← h.waiting]
  exact h.tagsDistinct.sublist (List.Sublist.map _ List.filter_sublist)

/-- A tag that no entry waiting to send has stands on no CONVERT frame. -/
theorem TagsInv.not_waiting (h : TagsInv k lane limit) {e : InFlight} (he : e ∈ k.inFlight) (hr : e.remaining ≠ none) :
    e.tag ∉ UpFrame.convertTags lane ++ k.converts.map (·.tag) := by
  rw [← h.waiting]
  intro hmem
  obtain ⟨x, hx, htag⟩ := List.mem_map.mp hmem
  obtain ⟨hx, hnone⟩ := List.mem_filter.mp hx
  rw [h.entry_unique hx he htag] at hnone
  exact hr (Option.isNone_iff_eq_none.mp hnone)

/-- An entry leaves the table with its tag no more IN-FLIGHT; its CONVERT frame, if it waited for one to be sent, has
left the queue or the lane (R42 step 3, R44). -/
theorem TagsInv.remove (h : TagsInv k lane limit) {e : InFlight} (he : e ∈ k.inFlight) {x : TagState} (hx : x ≠ .inFlight)
    {lane' : Option UpFrame} {converts' : List ConvertFrame}
    (hc : UpFrame.convertTags lane' ++ converts'.map (·.tag) =
      (UpFrame.convertTags lane ++ k.converts.map (·.tag)).filter (fun t => t ≠ e.tag)) :
    TagsInv { k with tags := k.tags.set e.tag x, inFlight := k.inFlight.erase e, converts := converts' } lane' limit where
  tagCount := by simp [h.tagCount]
  tagRange y hy := h.tagRange y (List.mem_of_mem_erase hy)
  tagsDistinct := h.tagsDistinct.sublist (List.Sublist.map _ List.erase_sublist)
  tagsAgree t := by
    simp only [h.erase_eq_filter he, List.mem_filter, decide_eq_true_eq]
    by_cases ht : e.tag = t
    · subst ht
      rw [List.getElem?_set_self (by rw [h.tagCount]; exact h.tagRange e he), Option.some.injEq]
      exact ⟨fun hxi => absurd hxi hx, fun ⟨y, ⟨_, hne⟩, heq⟩ => absurd heq hne⟩
    · rw [List.getElem?_set_ne ht, h.tagsAgree t]
      exact ⟨fun ⟨y, hy, hyt⟩ => ⟨y, ⟨hy, fun hye => ht (hye ▸ hyt)⟩, hyt⟩, fun ⟨y, ⟨hy, _⟩, hyt⟩ => ⟨y, hy, hyt⟩⟩
  limit := Nat.le_trans List.length_erase_le h.limit
  lastTag := h.lastTag
  waiting := by
    rw [hc, ← h.waiting, h.erase_eq_filter he, List.filter_map, List.filter_filter, List.filter_filter]
    congr 1
    refine List.filter_congr fun y _ => ?_
    simp [Bool.and_comm]

/-- An entry that times is on no CONVERT frame, so its removal leaves the frames. -/
theorem TagsInv.remove_timing (h : TagsInv k lane limit) {e : InFlight} (he : e ∈ k.inFlight) (hr : e.remaining ≠ none)
    {x : TagState} (hx : x ≠ .inFlight) :
    TagsInv { k with tags := k.tags.set e.tag x, inFlight := k.inFlight.erase e } lane limit := by
  refine h.remove he hx (List.filter_eq_self.mpr fun t ht => ?_).symm
  have hne : t ≠ e.tag := fun hte => h.not_waiting he hr (hte ▸ ht)
  simpa using hne

/-- A FREE tag is issued: its entry waits behind the others, and its frame behind theirs (R31, R32). -/
theorem TagsInv.issue (h : TagsInv k lane limit) {e : InFlight} {f : ConvertFrame} {t : Nat} (ht : t < 32)
    (hfree : k.tags[t]? = some .free) (hroom : k.inFlight.length < limit) (het : e.tag = t) (hft : f.tag = t)
    (hr : e.remaining = none) :
    TagsInv { k with tags := k.tags.set t .inFlight, lastTag := t, inFlight := k.inFlight ++ [e],
                     converts := k.converts ++ [f] } lane limit where
  tagCount := by simp [h.tagCount]
  tagRange y hy := by
    rcases List.mem_append.mp hy with hy | hy
    · exact h.tagRange y hy
    · rw [List.mem_singleton.mp hy, het]
      exact ht
  tagsDistinct := by
    have hnew : t ∉ k.inFlight.map (·.tag) := fun hmem => by
      obtain ⟨y, hy, hyt⟩ := List.mem_map.mp hmem
      have hin := (h.tagsAgree t).mpr ⟨y, hy, hyt⟩
      simp [hfree] at hin
    rw [List.map_append, List.map_singleton, het]
    exact List.nodup_append.mpr ⟨h.tagsDistinct, List.nodup_singleton t, fun a ha b hb hab =>
      hnew (List.mem_singleton.mp hb ▸ hab ▸ ha)⟩
  tagsAgree u := by
    simp only [List.mem_append, List.mem_singleton]
    by_cases hu : t = u
    · subst hu
      rw [List.getElem?_set_self (by rw [h.tagCount]; exact ht)]
      exact ⟨fun _ => ⟨e, .inr rfl, het⟩, fun _ => rfl⟩
    · rw [List.getElem?_set_ne hu, h.tagsAgree u]
      constructor
      · rintro ⟨y, hy, hyu⟩
        exact ⟨y, .inl hy, hyu⟩
      · rintro ⟨y, hy | rfl, hyu⟩
        · exact ⟨y, hy, hyu⟩
        · exact absurd (het.symm.trans hyu) hu
  limit := by
    rw [List.length_append, List.length_singleton]
    exact hroom
  lastTag := ht
  waiting := by
    simp only [List.filter_append, List.map_append, h.waiting, List.append_assoc, List.filter_singleton, hr,
      Option.isNone_none, cond_true, List.map_cons, List.map_nil, het, hft]

/-- A QUARANTINED tag becomes FREE (R38, R40). -/
theorem TagsInv.free (h : TagsInv k lane limit) {t n : Nat} (hq : k.tags[t]? = some (.quarantined n)) :
    TagsInv { k with tags := k.tags.set t .free } lane limit := by
  refine ⟨by simp [h.tagCount], h.tagRange, h.tagsDistinct, fun u => ?_, h.limit, h.lastTag, h.waiting⟩
  rw [← h.tagsAgree u]
  by_cases hu : t = u
  · subst hu
    obtain ⟨hlt, -⟩ := List.getElem?_eq_some_iff.mp hq
    simp [List.getElem?_set_self hlt, hq]
  · rw [List.getElem?_set_ne hu]

/-- What changes no tag of the table and no tag's part in it keeps the agreement; so does a tick (R33, R40). -/
theorem TagsInv.map (h : TagsInv k lane limit) {k' : RequestTracker} {lane' : Option UpFrame} {g : InFlight → InFlight}
    (hinFlight : k'.inFlight = k.inFlight.map g) (hg : ∀ e, (g e).tag = e.tag) (hcount : k'.tags.length = k.tags.length)
    (htags : ∀ t : Nat, k'.tags[t]? = some TagState.inFlight ↔ k.tags[t]? = some TagState.inFlight) (hlast : k'.lastTag = k.lastTag)
    (hwaiting : ((k.inFlight.map g).filter (fun e => e.remaining.isNone)).map (·.tag) =
      UpFrame.convertTags lane' ++ k'.converts.map (·.tag)) : TagsInv k' lane' limit where
  tagCount := hcount ▸ h.tagCount
  tagRange e he := by
    rw [hinFlight] at he
    obtain ⟨y, hy, rfl⟩ := List.mem_map.mp he
    exact hg y ▸ h.tagRange y hy
  tagsDistinct := by
    rw [hinFlight, List.map_map, show (fun e : InFlight => e.tag) ∘ g = fun e => e.tag from funext hg]
    exact h.tagsDistinct
  tagsAgree t := by
    rw [htags, h.tagsAgree t, hinFlight]
    constructor
    · rintro ⟨e, he, het⟩
      exact ⟨g e, List.mem_map_of_mem he, (hg e).trans het⟩
    · rintro ⟨e, he, het⟩
      obtain ⟨y, hy, rfl⟩ := List.mem_map.mp he
      exact ⟨y, hy, (hg y).symm.trans het⟩
  limit := by
    rw [hinFlight, List.length_map]
    exact h.limit
  lastTag := hlast ▸ h.lastTag
  waiting := hinFlight ▸ hwaiting

/-- The CONVERT frame on the lane has ended: its entry times from now on, and no other does (R33). -/
theorem TagsInv.startTimeout {f : ConvertFrame} (h : TagsInv k (some (.convert f)) limit) (n : Nat) :
    TagsInv { k with inFlight := k.inFlight.map fun e =>
      if e.tag = f.tag ∧ e.remaining = none then { e with remaining := some n } else e } none limit := by
  refine h.map rfl (fun e => by split <;> rfl) rfl (fun _ => Iff.rfl) rfl ?_
  have hnodup := h.waiting_nodup
  have hwaiting := h.waiting
  rw [UpFrame.convertTags, List.singleton_append] at hnodup hwaiting
  have hrest : ((k.inFlight.filter (fun e => e.remaining.isNone)).map (·.tag)).filter (fun t => t ≠ f.tag) =
      k.converts.map (·.tag) := by
    rw [hwaiting, List.filter_cons_of_neg (by simp)]
    exact List.filter_eq_self.mpr fun t ht => by simpa using fun hte : t = f.tag => (List.nodup_cons.mp hnodup).1 (hte ▸ ht)
  rw [UpFrame.convertTags, List.nil_append, ← hrest, List.filter_map, List.filter_map, List.filter_filter, List.map_map]
  refine congr (congrArg _ (funext fun e => ?_)) (List.filter_congr fun e _ => ?_)
  · simp only [Function.comp]
    split <;> rfl
  · simp only [Function.comp]
    by_cases htag : e.tag = f.tag <;> cases hr : e.remaining <;> simp [htag, hr]

end

/-! ## Issuing and completion (R29 to R32, R42) -/

section
variable {s : State}

theorem CursorInv.next {i : Nat} (hlink : s.intake.link.state = .up) (hc : s.tracker.cursor = nextCursor s.params.programLength i) :
    CursorInv s := by
  intro j hj
  rw [hc, nextCursor] at hj
  split at hj
  · next hlt => exact ⟨Option.some.inj hj ▸ hlt, hlink⟩
  · cases hj

theorem trackerInv_issueEntry {i t : Nat} (hr : readyToIssue s = some (i, t)) (h : TrackerInv s) :
    TrackerInv (issueEntry i t s) := by
  obtain ⟨hup, -, hroom, -, ht, hfree⟩ := readyToIssue_some hr
  obtain ⟨htags, -⟩ := (trackerInv_iff s).mp h
  refine (trackerInv_iff _).mpr ⟨?_, CursorInv.next hup rfl⟩
  exact (htags.issue (e := ⟨t, i, (s.entry i).unit, (s.entry i).channel, (s.entry i).setting, s.lines.marks, s.clock.tick, none⟩)
    (f := ⟨t, (s.entry i).unit, (s.entry i).channel, (s.entry i).setting⟩) ht hfree hroom rfl rfl rfl).of_eq rfl rfl rfl rfl

theorem trackerInv_issueTest (h : TrackerInv s) : TrackerInv (issueTest s) :=
  issueLoop_of (fun _ _ _ hr hs => trackerInv_issueEntry hr hs) _ _ h

theorem trackerInv_checkCompletion (h : TrackerInv s) : TrackerInv (checkCompletion s) :=
  h.of_eq (by simp) (by simp) (by simp) (by simp)

/-- A timing entry completes, whatever its tag becomes (R34, R36, R37). -/
theorem trackerInv_completeRequest {e : InFlight} (content : Content) {x : TagState} (he : e ∈ s.tracker.inFlight)
    (hr : e.remaining ≠ none) (hx : x ≠ .inFlight) (h : TrackerInv s) : TrackerInv (completeRequest e content x s) := by
  obtain ⟨htags, hcursor⟩ := (trackerInv_iff s).mp h
  refine trackerInv_issueTest (trackerInv_checkCompletion ((trackerInv_iff _).mpr ⟨?_, ?_⟩))
  · refine TagsInv.of_eq (k := { s.tracker with
      tags := s.tracker.tags.set e.tag x, inFlight := s.tracker.inFlight.erase e }) ?_ ?_ ?_ ?_ ?_
    · simpa using htags.remove_timing he hr hx
    all_goals simp [setTag, removeEntry]
  · intro i hi
    simpa using hcursor i (by simpa using hi)

theorem trackerInv_setTag_free {t n : Nat} (hq : s.tracker.tags[t]? = some (.quarantined n)) (h : TrackerInv s) :
    TrackerInv (setTag t .free s) := by
  obtain ⟨htags, hcursor⟩ := (trackerInv_iff s).mp h
  exact (trackerInv_iff _).mpr ⟨htags.free hq, hcursor⟩

theorem trackerInv_timedReply (f : SampleFrame) {e : InFlight} (he : e ∈ s.tracker.inFlight) (hr : e.remaining ≠ none)
    (h : TrackerInv s) : TrackerInv (timedReply f e s) := by
  unfold timedReply
  split
  · exact trackerInv_completeRequest _ he hr (by simp) h
  · exact trackerInv_completeRequest _ he hr (by simp) (h.of_eq rfl rfl rfl rfl)

theorem trackerInv_matchReply (f : SampleFrame) (h : TrackerInv s) : TrackerInv (matchReply f s) := by
  unfold matchReply
  split
  · next hq =>
    exact trackerInv_issueTest (trackerInv_setTag_free (n := _) hq (h.of_eq rfl rfl rfl rfl))
  · split
    · next e he =>
      split
      · next hr =>
        exact trackerInv_timedReply f (List.mem_of_find?_eq_some he) (Option.isSome_iff_ne_none.mp hr) h
      · exact h.of_eq rfl rfl rfl rfl
    · exact h.of_eq rfl rfl rfl rfl
  · exact h.of_eq rfl rfl rfl rfl
  · exact h.of_eq rfl rfl rfl rfl

theorem trackerInv_requestTimesOut (t : Nat) (h : TrackerInv s) : TrackerInv (requestTimesOut t s) := by
  unfold requestTimesOut
  split
  · next e he =>
    split
    · next hr =>
      exact trackerInv_completeRequest _ (List.mem_of_find?_eq_some he) (Option.isSome_iff_ne_none.mp hr)
        (by simp) (h.of_eq rfl rfl rfl rfl)
    · exact h
  · exact h

theorem trackerInv_quarantineEnds (t : Nat) (h : TrackerInv s) : TrackerInv (quarantineEnds t s) := by
  unfold quarantineEnds
  split
  · next hq => exact trackerInv_issueTest (trackerInv_setTag_free hq h)
  all_goals exact h

theorem trackerInv_spacingExpires (h : TrackerInv s) : TrackerInv (spacingExpires s) := by
  unfold spacingExpires
  split
  · refine trackerInv_issueTest ?_
    obtain ⟨htags, hcursor⟩ := (trackerInv_iff s).mp h
    exact (trackerInv_iff _).mpr ⟨htags.of_eq rfl rfl rfl rfl, hcursor⟩
  · exact h

/-! ## Sweep start (R10, R28, R43) -/

theorem trackerInv_fillRest (hp : ParamsInv s) (htags : TagsInv s.tracker s.intake.lane s.params.inflightLimit)
    (hcursor : ∀ i, s.tracker.cursor = some i → i < s.params.programLength) : TrackerInv (fillRest s) := by
  have htracker := fillRest_tracker hp.programLength.2 hcursor
  refine (trackerInv_iff _).mpr ⟨?_, CursorInv.of_none (by rw [htracker])⟩
  simpa [htracker] using htags.of_eq (k' := { s.tracker with cursor := none }) rfl rfl rfl rfl

/-- A program in use has an entry to begin with. -/
theorem trackerInv_beginIssuing (hp : ParamsInv s) (h : TrackerInv s) : TrackerInv (beginIssuing s) := by
  obtain ⟨htags, -⟩ := (trackerInv_iff s).mp h
  have htags : TagsInv { s.tracker with cursor := some 0, spacing := none } s.intake.lane s.params.inflightLimit :=
    htags.of_eq rfl rfl rfl rfl
  have hfirst (i : Nat) (hi : some 0 = some i) : i < s.params.programLength := Option.some.inj hi ▸ hp.programLength.1
  unfold beginIssuing
  dsimp only
  split
  · next hup => exact trackerInv_issueTest ((trackerInv_iff _).mpr ⟨htags, fun i hi => ⟨hfirst i hi, hup⟩⟩)
  · exact trackerInv_fillRest (hp.of_params rfl) htags hfirst

theorem trackerInv_sweepStart (hp : ParamsInv s) (h : TrackerInv s) : TrackerInv (sweepStart s) :=
  trackerInv_beginIssuing (hp.of_params (by simp)) (h.of_eq (by simp) (by simp) (by simp) (by simp))

theorem trackerInv_pacerExpires (hp : ParamsInv s) (h : TrackerInv s) : TrackerInv (pacerExpires s) := by
  have event {u : State} (hp : ParamsInv u) (h : TrackerInv u) : TrackerInv (pacerEvent u) := by
    unfold pacerEvent
    split
    · exact h.of_eq rfl rfl rfl rfl
    · exact trackerInv_sweepStart hp h
  unfold pacerExpires
  split
  · exact event (hp.of_params rfl) (h.of_eq rfl rfl rfl rfl)
  · exact event (hp.of_params rfl) (h.of_eq rfl rfl rfl rfl)
  all_goals exact h

theorem trackerInv_startLineLevel (level : Bool) (hp : ParamsInv s) (h : TrackerInv s) :
    TrackerInv (startLineLevel level s) := by
  unfold startLineLevel startEdgeSeen
  dsimp only
  (repeat' split)
  · exact h
  · exact trackerInv_sweepStart (hp.of_params rfl) (h.of_eq rfl rfl rfl rfl)
  all_goals exact h.of_eq rfl rfl rfl rfl

theorem trackerInv_startRunBody (lines : Lines) (r : Request) (hp : ParamsInv s) (h : TrackerInv s) :
    TrackerInv (startRunBody lines r s) := by
  have prepared : TrackerInv (prepareRun (seeLines lines s)) := h.of_eq (by simp) (by simp) (by simp) (by simp)
  have params : ParamsInv (prepareRun (seeLines lines s)) := hp.of_params (by simp)
  have entered : TrackerInv (enterRun (prepareRun (seeLines lines s))) := by
    unfold enterRun
    split
    · exact trackerInv_sweepStart (params.of_params rfl) (prepared.of_eq rfl rfl rfl rfl)
    · exact prepared.of_eq rfl rfl rfl rfl
  unfold startRunBody
  split
  · split
    · exact h.of_eq rfl rfl rfl rfl
    · split
      · exact h.of_eq rfl rfl rfl rfl
      · exact entered.of_eq rfl rfl rfl rfl
  · exact h.of_eq rfl rfl rfl rfl

/-! ## SET_PARAMETER (R155) -/

/-- INFLIGHT_LIMIT and PROGRAM_LENGTH are written while the run is STOPPED, and then nothing is in flight. -/
theorem trackerInv_setParameterBody (r : Request) (hrun : RunInv s) (h : TrackerInv s) :
    TrackerInv (setParameterBody r s) := by
  unfold setParameterBody
  split
  · split
    · exact h.of_eq rfl rfl rfl rfl
    · next p hp =>
      split
      · next hw =>
        split
        · exact h.of_eq rfl rfl rfl rfl
        · next ps hset =>
          obtain ⟨-, -, hother⟩ := Params.set_eq_some hset
          have hw := (Param.writable_iff p s).mp hw
          refine TrackerInv.of_eq (s := putParams p ps s) ?_ rfl rfl rfl rfl
          obtain ⟨htags, hcursor⟩ := (trackerInv_iff s).mp h
          by_cases hstopped : s.sweeper.run = .stopped
          · obtain ⟨hc, hempty⟩ := hrun.idleTracker (hrun.noSweep (.inl hstopped))
            refine (trackerInv_iff _).mpr ⟨?_, CursorInv.of_none (by simpa using hc)⟩
            obtain ⟨h1, h2, h3, h4, -, h6, h7⟩ := htags
            exact ⟨by simpa using h1, by simpa using h2, by simpa using h3, by simpa using h4, by simp [hempty],
              by simpa using h6, by simpa using h7⟩
          · have hlimit : ps.inflightLimit = s.params.inflightLimit :=
              hother .inflightLimit fun hp => hstopped (by subst hp; exact hw)
            have hlength : ps.programLength = s.params.programLength :=
              hother .programLength fun hp => hstopped (by subst hp; exact hw)
            refine (trackerInv_iff _).mpr ⟨?_, fun i hi => ?_⟩
            · simpa [putParams_params, hlimit] using htags
            · simpa [putParams_params, hlength] using hcursor i (by simpa using hi)
      · exact h.of_eq rfl rfl rfl rfl
  · exact h.of_eq rfl rfl rfl rfl

/-! ## The intake lane and link (R33, R44, R171, R174) -/

/-- The end of a CONVERT frame: its entry, the first that waited, times from now on (R33). -/
theorem trackerInv_upFrameEnded (h : TrackerInv s) : TrackerInv (upFrameEnded s) := by
  obtain ⟨htags, hcursor⟩ := (trackerInv_iff s).mp h
  unfold upFrameEnded
  split
  · next f hf => exact (trackerInv_iff _).mpr ⟨(hf ▸ htags).startTimeout _, hcursor⟩
  · next r hr =>
    have htags : TagsInv s.tracker (some (.forward r)) s.params.inflightLimit := hr ▸ htags
    refine (trackerInv_iff _).mpr ⟨?_, hcursor⟩
    obtain ⟨h1, h2, h3, h4, h5, h6, h7⟩ := htags
    exact ⟨h1, h2, h3, h4, h5, h6, h7⟩
  · exact h

/-- A queued CONVERT frame is withdrawn with its entry (R44). -/
theorem tagsInv_withdrawEntry {f : ConvertFrame} {l : List ConvertFrame} {limit : Nat}
    (h : TagsInv { s.tracker with converts := f :: l } none limit) :
    TagsInv { (withdrawEntry s f).tracker with converts := l } none limit := by
  have hmem : f.tag ∈ (s.tracker.inFlight.filter (fun e => e.remaining.isNone)).map (·.tag) := by
    rw [h.waiting]
    simp [UpFrame.convertTags]
  obtain ⟨e, he, hef⟩ := List.mem_map.mp hmem
  have he := List.mem_of_mem_filter he
  have hfound : s.tracker.inFlight.find? (fun e => e.tag == f.tag) = some e := by
    cases hx : s.tracker.inFlight.find? (fun e => e.tag == f.tag) with
    | none =>
      have hno := List.find?_eq_none.mp hx e he
      exact absurd (beq_iff_eq.mpr hef) hno
    | some x =>
      have htag : x.tag = f.tag := by simpa using List.find?_some hx
      rw [h.entry_unique (List.mem_of_find?_eq_some hx) he (htag.trans hef.symm)]
  have hnodup := h.waiting_nodup
  simp only [UpFrame.convertTags, List.nil_append, List.map_cons, List.nodup_cons] at hnodup
  have hremoved := h.remove (lane' := none) (converts' := l) he (x := .free) (by simp) ?_
  · refine hremoved.of_eq ?_ ?_ ?_ rfl <;> simp [withdrawEntry, hfound, setTag, removeEntry]
  · simp only [UpFrame.convertTags, List.nil_append, List.map_cons, hef]
    rw [List.filter_cons_of_neg (by simp)]
    exact (List.filter_eq_self.mpr fun t ht => by simpa using fun hte : t = f.tag => hnodup.1 (hte ▸ ht)).symm

/-- With nothing on the lane, the frames queued are all withdrawn, and no entry waits to send (R44). -/
theorem tagsInv_withdrawConverts {limit : Nat} (h : TagsInv s.tracker none limit) :
    TagsInv (withdrawConverts s).tracker none limit := by
  have all (l : List ConvertFrame) : ∀ u : State, TagsInv { u.tracker with converts := l } none limit →
      TagsInv { (l.foldl withdrawEntry u).tracker with converts := [] } none limit := by
    induction l with
    | nil => exact fun u hu => hu
    | cons f l ih => exact fun u hu => ih _ (tagsInv_withdrawEntry hu)
  exact all s.tracker.converts s h

/-- With the lane clear, the withdrawal and the fill leave no frame queued and the cursor at end (R43, R44). -/
theorem trackerInv_withdrawAndFill (n : Notice) (hp : ParamsInv s) (hlane : s.intake.lane = none)
    (htags : TagsInv s.tracker none s.params.inflightLimit)
    (hcursor : ∀ i, s.tracker.cursor = some i → i < s.params.programLength) :
    TrackerInv (postNotice n (fillRest (withdrawConverts s))) := by
  have hfilled : TrackerInv (fillRest (withdrawConverts s)) :=
    trackerInv_fillRest (hp.of_params (by simp)) (by simpa [hlane] using tagsInv_withdrawConverts htags)
      fun i hi => by simpa using hcursor i (by simpa using hi)
  exact hfilled.of_eq (by simp) (by simp) (by simp) (by simp)

/-- A drop of the intake link leaves no frame on the lane or queued, and the cursor at end (R174, R43, R44). -/
theorem trackerInv_intakeDropped (hp : ParamsInv s) (htags : TagsInv s.tracker s.intake.lane s.params.inflightLimit)
    (hcursor : ∀ i, s.tracker.cursor = some i → i < s.params.programLength) : TrackerInv (intakeDropped s) := by
  have hended : TagsInv (upFrameEnded s).tracker none s.params.inflightLimit := by
    have h : TrackerInv (upFrameEnded { s with tracker.cursor := none }) :=
      trackerInv_upFrameEnded ((trackerInv_iff _).mpr ⟨htags.of_eq rfl rfl rfl rfl, CursorInv.of_none rfl⟩)
    have h := ((trackerInv_iff _).mp h).1
    rw [upFrameEnded_lane] at h
    refine TagsInv.of_eq (by simpa using h) ?_ ?_ ?_ ?_ <;> unfold upFrameEnded <;> (repeat' split) <;> simp_all [startTimeout]
  exact trackerInv_withdrawAndFill _ (hp.of_params (by simp)) (upFrameEnded_lane s) (by simpa using hended)
    (by simpa using hcursor)

theorem trackerInv_setLink {p : Port} {l : Link} (hl : LinkStep (s.link p) l) (hp : ParamsInv s) (h : TrackerInv s) :
    TrackerInv (setLink p l s) := by
  obtain ⟨htags, hcursor⟩ := (trackerInv_iff s).mp h
  cases p with
  | delivery => exact h.of_eq (by simp [setLink]) (by simp [setLink]) (by simp [setLink]) (by simp [setLink])
  | intake =>
    rw [setLink]
    by_cases hdrop : s.intake.link.state = .up ∧ l.state = .down
    · rw [setIntakeLink_of_drop hdrop.1 hdrop.2]
      exact trackerInv_intakeDropped (hp.of_params rfl) htags fun i hi => (hcursor i hi).1
    · rw [setIntakeLink_of_no_drop hdrop]
      have hlinked : TrackerInv { s with intake.link := l } := by
        refine (trackerInv_iff _).mpr ⟨htags, fun i hi => ?_⟩
        obtain ⟨hlt, hup⟩ := hcursor i hi
        exact ⟨hlt, (hl.down_of_up hup).resolve_right fun hdown => hdrop ⟨hup, hdown⟩⟩
      split
      · exact hlinked.of_eq (by simp) (by simp) (by simp) (by simp)
      · exact hlinked

theorem trackerInv_receiveBadFrame (p : Port) (hp : ParamsInv s) (h : TrackerInv s) : TrackerInv (receiveBadFrame p s) := by
  rw [receiveBadFrame_eq]
  split
  · exact trackerInv_setLink (by rw [countBadFrame_link]; exact .bad) (hp.of_params (by simp))
      (h.of_eq (by simp) (by simp) (by simp) (by simp))
  · exact trackerInv_setLink .bad hp h

theorem trackerInv_receiveSample (f : SampleFrame) (hp : ParamsInv s) (h : TrackerInv s) :
    TrackerInv (receiveSample f s) := by
  have hlink := trackerInv_setLink (p := .intake) .good hp h
  exact receiveGoodFrame_of hlink fun _ => trackerInv_matchReply f hlink

theorem trackerInv_receiveIntakeFrame (f : RawFrame) (hp : ParamsInv s) (h : TrackerInv s) :
    TrackerInv (receiveIntakeFrame f s) := by
  have hlink := trackerInv_setLink (p := .intake) .good hp h
  unfold receiveIntakeFrame
  split
  · split
    · split
      · exact trackerInv_receiveSample _ hp h
      · exact trackerInv_receiveBadFrame _ hp h
    · exact receiveGoodFrame_of hlink fun _ => hlink.of_eq (by simp) (by simp) (by simp) (by simp)
  · exact trackerInv_receiveBadFrame _ hp h

theorem trackerInv_receiveRequest (r : Request) (hp : ParamsInv s) (h : TrackerInv s) :
    TrackerInv (receiveRequest r s) := by
  have hlink := trackerInv_setLink (p := .delivery) .good hp h
  unfold receiveRequest
  split
  · exact receiveGoodFrame_of hlink fun _ => hlink.of_eq (by simp) (by simp) (by simp) (by simp)
  · exact trackerInv_receiveBadFrame _ hp h

theorem trackerInv_frameWhileAligning (p : Port) (good : Bool) (hp : ParamsInv s) (h : TrackerInv s) :
    TrackerInv (frameWhileAligning p good s) := by
  unfold frameWhileAligning
  split
  · cases good with
    | true => exact trackerInv_setLink .good hp h
    | false => exact trackerInv_setLink .bad hp h
  · exact h

theorem trackerInv_convertEnds (h : TrackerInv s) : TrackerInv (convertEnds s) := by
  unfold convertEnds
  split
  · exact trackerInv_upFrameEnded h
  all_goals exact h

theorem trackerInv_otherFrameEnds (p : Port) (h : TrackerInv s) : TrackerInv (otherFrameEnds p s) := by
  unfold otherFrameEnds
  cases p with
  | intake =>
    dsimp only
    split
    · exact trackerInv_upFrameEnded h
    all_goals exact h
  | delivery =>
    dsimp only
    split
    · exact h.of_eq (by simp) (by simp) (by simp) (by simp)
    · exact h.of_eq (by simp) (by simp) (by simp) (by simp)
    · exact h.of_eq (by simp) (by simp) (by simp) (by simp)
    all_goals exact h

/-- A CONVERT frame that goes to the free lane was the first of those queued (R171). -/
theorem trackerInv_chooseUp (hfree : s.upLaneFree = true) (h : TrackerInv s) : TrackerInv (chooseUp s) := by
  obtain ⟨-, hlane, -⟩ := (upLaneFree_iff s).mp hfree
  obtain ⟨htags, hcursor⟩ := (trackerInv_iff s).mp h
  rw [hlane] at htags
  obtain ⟨hcount, hrange, hdistinct, hagree, hlimit, hlast, hwaiting⟩ := htags
  have started {r : Request} {turn : Nat} {u : State} (hu : u.tracker = s.tracker) (hparams : u.params = s.params)
      (hlink : u.intake.link = s.intake.link) : TrackerInv (startUp (.forward r) turn u) := by
    refine (trackerInv_iff _).mpr ⟨?_, ?_⟩
    · simp only [startUp, hu, hparams]
      exact ⟨hcount, hrange, hdistinct, hagree, hlimit, hlast, hwaiting⟩
    · simpa [CursorInv, startUp, hu, hparams, hlink] using hcursor
  have converted {c : ConvertFrame} {converts : List ConvertFrame} {turn : Nat} (hc : s.tracker.converts = c :: converts) :
      TrackerInv (startUp (.convert c) turn { s with tracker.converts := converts }) :=
    (trackerInv_iff _).mpr ⟨⟨hcount, hrange, hdistinct, hagree, hlimit, hlast, by
      rw [show (startUp (.convert c) turn { s with tracker.converts := converts }).tracker.inFlight = s.tracker.inFlight
        from rfl, hwaiting, hc]
      rfl⟩, hcursor⟩
  unfold chooseUp
  split
  · next hc =>
    split
    · exact started rfl rfl rfl
    · exact converted hc
  · exact started rfl rfl rfl
  · next hc => exact converted hc
  · exact h

theorem trackerInv_settle (h : TrackerInv s) : TrackerInv (settle s) := by
  have hchoice : TrackerInv (upChoice s) := by
    unfold upChoice
    split
    · exact h.of_eq rfl rfl rfl rfl
    · exact h
  have hup : TrackerInv (arbitrateUp s) := by
    rw [arbitrateUp_eq]
    split
    · next hfree => exact trackerInv_chooseUp hfree hchoice
    · exact hchoice
  exact hup.of_eq (by simp [settle]) (by simp [settle]) (by simp [settle]) (by simp [settle])

/-! ## The clock and the resets (R40, R46, R160) -/

theorem tick_eq_inFlight (x : TagState) : x.tick = .inFlight ↔ x = .inFlight := by cases x <;> simp [TagState.tick]

theorem trackerInv_tick (h : TrackerInv s) : TrackerInv (tick s) := by
  obtain ⟨htags, hcursor⟩ := (trackerInv_iff s).mp h
  refine (trackerInv_iff _).mpr ⟨htags.map rfl (fun _ => rfl) (by simp [tick]) (fun t => ?_) rfl ?_, hcursor⟩
  · simp [tick, List.getElem?_map, tick_eq_inFlight]
  · show _ = UpFrame.convertTags s.intake.lane ++ s.tracker.converts.map (·.tag)
    rw [← htags.waiting, List.filter_map, List.map_map]
    refine congr rfl (List.filter_congr fun e _ => ?_)
    simp

theorem trackerInv_idle (h : TrackerInv s) : TrackerInv (idle s) := by
  unfold idle
  split
  · exact h.of_eq rfl rfl rfl rfl
  · split
    · unfold clockCycle
      dsimp only
      split
      · exact h.of_eq rfl rfl rfl rfl
      · exact trackerInv_tick (h.of_eq rfl rfl rfl rfl)
    · exact h.of_eq rfl rfl rfl rfl

/-- RESET_ENGINE completes with the lanes quiet, and leaves every tag QUARANTINED. -/
theorem trackerInv_resetCompletes (h : TrackerInv s) : TrackerInv (resetCompletes s) := by
  unfold resetCompletes
  split
  · split
    · next hquiet =>
      simp only [State.lanesQuiet, Bool.and_eq_true, Option.isNone_iff_eq_none] at hquiet
      obtain ⟨hlane, -⟩ := hquiet
      have hno (t : Nat) : (s.tracker.tags.map fun _ => TagState.quarantined s.params.replyTimeout)[t]? ≠ some .inFlight :=
        fun ht => by simp [List.getElem?_replicate] at ht
      refine (trackerInv_iff _).mpr ⟨⟨?_, ?_, ?_, fun t => ⟨fun ht => absurd ht (hno t), ?_⟩, ?_, h.lastTag, ?_⟩,
        CursorInv.of_none rfl⟩ <;>
        simp [respond, resetBlocks, RequestTracker.resetEngine, hlane, UpFrame.convertTags, h.tagCount]
    · exact h
  all_goals exact h

/-! ## Every command -/

theorem trackerInv_effect (c : Instr) (hp : ParamsInv s) (hrun : RunInv s) (h : TrackerInv s) : TrackerInv (effect c s) := by
  have hpop : TrackerInv (popRequest s) := h.of_eq (by simp) (by simp) (by simp) (by simp)
  have seen (lines : Lines) : TrackerInv (seeLines lines s) := h.of_eq rfl rfl rfl rfl
  have params (lines : Lines) : ParamsInv (seeLines lines s) := hp.of_params rfl
  cases c with
  | setParameter =>
    exact executeFront_of h fun r _ => trackerInv_setParameterBody r (hrun.of_eq rfl rfl rfl rfl) hpop
  | startRun lines => exact executeFront_of h fun r _ => trackerInv_startRunBody lines r (hp.of_params (by simp)) hpop
  | echo | readStatus | getParameter | writeProgramEntry | readProgramEntry | stopRun | writeCondition | readCondition
  | forceTrigger | arm | disarm | clearHalt | openWindow | closeWindow | discardRecord | readCounters | resetEngine =>
    exact h.of_eq (executeFront_frame (·.tracker) (by simp) (by simp)) (executeFront_frame (·.params) (by simp) (by simp))
      (executeFront_frame (·.intake.link) (by simp) (by simp)) (executeFront_frame (·.intake.lane) (by simp) (by simp))
  | unknownRequestKind | trigoutPulseExpiry | recordFrameEnd =>
    exact h.of_eq (by simp [effect]) (by simp [effect]) (by simp [effect]) (by simp [effect])
  | requestArrival r => exact trackerInv_receiveRequest r hp h
  | sampleReceived f lines => exact trackerInv_receiveSample f (params lines) (seen lines)
  | passbackReceived f => exact trackerInv_receiveIntakeFrame f hp h
  | badFrame p lines => exact trackerInv_receiveBadFrame p (params lines) (seen lines)
  | idleAlignmentSequence p => exact trackerInv_setLink .align hp h
  | goodIdleGroup p => exact trackerInv_setLink .good hp h
  | malformedIdleGroup p lines => exact trackerInv_setLink (s := seeLines lines s) .bad (params lines) (seen lines)
  | lossOfSignal p lines =>
    exact trackerInv_setLink (s := seeLines lines s) (by cases p <;> exact .lost) (params lines) (seen lines)
  | frameReceivedWhileAligning p good => exact trackerInv_frameWhileAligning p good hp h
  | pacerExpiry lines => exact trackerInv_pacerExpires (params lines) (seen lines)
  | sweepStartEdge level lines => exact trackerInv_startLineLevel level (params lines) (seen lines)
  | spacingTimerExpiry lines => exact trackerInv_spacingExpires (seen lines)
  | convertSent => exact trackerInv_convertEnds h
  | requestTimeout tag lines => exact trackerInv_requestTimesOut _ (seen lines)
  | quarantineExpiry tag lines => exact trackerInv_quarantineEnds _ (seen lines)
  | frameTransmissionEnd p => exact trackerInv_otherFrameEnds p h
  | resetEffects => exact trackerInv_resetCompletes h
  | hardReset straps level => exact (inv_afterReset (nodeOfStraps straps) level).tracker.of_eq rfl rfl rfl rfl

end

/-- Settles O10: each way a tag changes, and each way an entry or a CONVERT frame comes and goes. -/
theorem tagsAgreeWithTheInFlightTable : Obligations.TagsAgreeWithTheInFlightTable := by
  unfold Obligations.TagsAgreeWithTheInFlightTable
  intro s t h hp hrun hs
  unfold step at hs
  split at hs
  · next c rest hpending =>
    rw [exec_effect] at hs
    cases hs
    exact trackerInv_settle
      (trackerInv_effect c (hp.of_params rfl) (hrun.of_eq rfl rfl rfl rfl) (h.of_eq rfl rfl rfl rfl))
  · cases hs
    exact trackerInv_idle h

end Sys2Proof.Machine
end

section
/-! PROOFS. Every step keeps the run state, the sweep, the pacer and the deferred slot in agreement (01): part of O9. -/

namespace Sys2Proof.Machine

/-! ## What the invariant speaks of -/

/-- The Sweep Controller's part of the invariant of the run, with the deferred slot. -/
structure SweeperInv (c : SweepController) (d : Deferred) : Prop where
  noSweep : c.run = .stopped ∨ c.run = .waitingLine → c.sweep = none
  stopping : c.run = .stopping → c.sweep.isSome ∧ c.endCause.isSome
  pacerRuns : c.pacer.isSome → c.run = .running ∨ c.run = .burst
  runningPaced : c.run = .running → c.pacer.isSome
  burstLast : c.run = .burst → c.burstCount = 0 → c.pacer = none ∧ c.sweep.isSome
  deferredStop : ∀ r, d = .stopRun r → c.run = .stopping

/-- With no sweep in progress nothing is to be issued and nothing is in flight (R28). -/
def TrackerIdle (s : State) : Prop := s.sweeper.sweep = none → s.tracker.cursor = none ∧ s.tracker.inFlight = []

theorem runInv_iff (s : State) :
    RunInv s ↔ SweeperInv s.sweeper s.manager.deferred ∧ TrackerIdle s ∧
      (s.sweeper.sweep.isSome → s.tracker.cursor.isSome ∨ s.tracker.inFlight ≠ []) :=
  ⟨fun ⟨h1, h2, h3, h4, h5, h6, h7, h8⟩ => ⟨⟨h1, h2, h3, h4, h5, h6⟩, h7, h8⟩,
    fun ⟨⟨h1, h2, h3, h4, h5, h6⟩, h7, h8⟩ => ⟨h1, h2, h3, h4, h5, h6, h7, h8⟩⟩

theorem RunInv.sweeper {s : State} (h : RunInv s) : SweeperInv s.sweeper s.manager.deferred := ((runInv_iff s).mp h).1

theorem SweeperInv.of_eq {c c' : SweepController} {d : Deferred} (h : SweeperInv c d) (hrun : c'.run = c.run)
    (hsweep : c'.sweep = c.sweep) (hcause : c'.endCause = c.endCause) (hpacer : c'.pacer = c.pacer)
    (hcount : c'.burstCount = c.burstCount) : SweeperInv c' d := by
  obtain ⟨h1, h2, h3, h4, h5, h6⟩ := h
  constructor <;> simpa only [hrun, hsweep, hcause, hpacer, hcount]

/-- A run that is over has no pacer, no sweep and no STOP_RUN that waits. -/
theorem SweeperInv.of_stopped {c : SweepController} {d : Deferred} (hrun : c.run = .stopped) (hsweep : c.sweep = none)
    (hpacer : c.pacer = none) (hd : ∀ r, d ≠ .stopRun r) : SweeperInv c d := by
  constructor <;> simp [hrun, hsweep, hpacer, hd]

/-- A run that is not STOPPING has no STOP_RUN in the slot (R151). -/
theorem SweeperInv.no_deferred {c : SweepController} {d : Deferred} (h : SweeperInv c d) (hrun : c.run ≠ .stopping) :
    ∀ r, d ≠ .stopRun r := fun r hr => hrun (h.deferredStop r hr)

/-- During a sweep a run may be told to stop (R20). -/
theorem SweeperInv.stop {c : SweepController} {d : Deferred} (hsweep : c.sweep.isSome) (cause : EndCause) :
    SweeperInv { c with run := .stopping, pacer := none, endCause := some cause } d := by
  constructor <;> simp [hsweep]

/-! ## The halt stop demand (R23) -/

/-- What the halt stop demand makes of the Sweep Controller. -/
def SweepController.halted (c : SweepController) : SweepController :=
  match c.run with
  | .stopped | .stopping => c
  | .waitingLine => { c with run := .stopped, pacer := none, endCause := some .halt }
  | .running | .burst =>
    if c.sweep.isSome then { c with run := .stopping, pacer := none, endCause := some .halt }
    else { c with run := .stopped, pacer := none, endCause := some .halt }

theorem haltStopDemand_sweeper (s : State) : (haltStopDemand s).sweeper = s.sweeper.halted := by
  cases h : s.sweeper.run with
  | stopped | stopping => simp [haltStopDemand, SweepController.halted, h]
  | waitingLine => simp [haltStopDemand, SweepController.halted, h, endRun]
  | running | burst =>
    by_cases hs : s.sweeper.sweep.isSome <;> simp [haltStopDemand, SweepController.halted, h, hs, endRun, beginStopping]

theorem halted_halted (c : SweepController) : c.halted.halted = c.halted := by
  unfold SweepController.halted
  cases h : c.run with
  | stopped | stopping => simp [h]
  | waitingLine => rfl
  | running | burst => by_cases hs : c.sweep.isSome <;> simp [hs]

theorem halted_sweep (c : SweepController) : c.halted.sweep = c.sweep := by
  unfold SweepController.halted
  (repeat' split) <;> rfl

theorem halted_of_ending {c : SweepController} (h : c.run = .stopped ∨ c.run = .stopping) : c.halted = c := by
  rcases h with h | h <;> simp only [SweepController.halted, h]

/-- Without a sweep the demand ends a run that goes at once. -/
theorem halted_of_no_sweep {c : SweepController} (hs : c.sweep = none) (hrun : c.run ≠ .stopping) (hgoes : c.run ≠ .stopped) :
    c.halted = { c with run := .stopped, pacer := none, endCause := some .halt } := by
  unfold SweepController.halted
  cases h : c.run with
  | stopped => exact absurd h hgoes
  | stopping => exact absurd h hrun
  | waitingLine => rfl
  | running | burst => simp [hs]

theorem SweeperInv.halted {c : SweepController} {d : Deferred} (h : SweeperInv c d) : SweeperInv c.halted d := by
  by_cases hend : c.run = .stopped ∨ c.run = .stopping
  · rw [halted_of_ending hend]
    exact h
  · obtain ⟨hstopped, hstopping⟩ := not_or.mp hend
    cases hs : c.sweep with
    | none =>
      rw [halted_of_no_sweep hs hstopping hstopped]
      exact .of_stopped rfl hs rfl (h.no_deferred hstopping)
    | some r =>
      have hhalted : c.halted = { c with run := .stopping, pacer := none, endCause := some .halt } := by
        unfold SweepController.halted
        cases hrun : c.run with
        | stopped => exact absurd hrun hstopped
        | stopping => exact absurd hrun hstopping
        | waitingLine => simp [h.noSweep (.inr hrun)] at hs
        | running | burst => simp [hs]
      rw [hhalted]
      exact .stop (by simp [hs]) .halt

/-- Capture leaves the Sweep Controller as it is, but for a halt stop demand. -/
def AtMostHalted (c c' : SweepController) : Prop := c' = c ∨ c' = c.halted

theorem AtMostHalted.refl (c : SweepController) : AtMostHalted c c := .inl rfl

theorem AtMostHalted.sweep {c c' : SweepController} (h : AtMostHalted c c') : c'.sweep = c.sweep := by
  rcases h with rfl | rfl
  · rfl
  · exact halted_sweep c

theorem AtMostHalted.sweeperInv {c c' : SweepController} {d : Deferred} (h : AtMostHalted c c') (hc : SweeperInv c d) :
    SweeperInv c' d := by
  rcases h with rfl | rfl
  · exact hc
  · exact hc.halted

section
variable {c : SweepController} {s : State}

@[simp] theorem atMostHalted_enterHalted (cause : HaltCause) (h : AtMostHalted c s.sweeper) :
    AtMostHalted c (enterHalted cause s).sweeper := by
  have hs : (enterHalted cause s).sweeper = s.sweeper.halted := by simp [enterHalted, haltStopDemand_sweeper]
  rw [hs]
  rcases h with h | h
  · exact .inr (h ▸ rfl)
  · exact .inr (by rw [h, halted_halted])

@[simp] theorem atMostHalted_rearm (h : AtMostHalted c s.sweeper) : AtMostHalted c (rearm s).sweeper := by
  unfold rearm
  (repeat' split) <;> simp [h]

@[simp] theorem atMostHalted_quotaPath (h : AtMostHalted c s.sweeper) : AtMostHalted c (quotaPath s).sweeper := by
  unfold quotaPath
  (repeat' split) <;> simp [h]

@[simp] theorem atMostHalted_closeNormally (h : AtMostHalted c s.sweeper) : AtMostHalted c (closeNormally s).sweeper := by
  simp [closeNormally, h]

@[simp] theorem atMostHalted_closeTruncated (h : AtMostHalted c s.sweeper) :
    AtMostHalted c (closeTruncated s).sweeper := by simp [closeTruncated, h]

@[simp] theorem atMostHalted_runEndReport (h : AtMostHalted c s.sweeper) : AtMostHalted c (runEndReport s).sweeper := by
  unfold runEndReport
  split <;> simp [h]

@[simp] theorem atMostHalted_postAppend (h : AtMostHalted c s.sweeper) : AtMostHalted c (postAppend s).sweeper := by
  unfold postAppend
  dsimp only
  (repeat' split) <;> simp [h]

@[simp] theorem atMostHalted_receiveCompleted (v : Verdict) (number : Word) (h : AtMostHalted c s.sweeper) :
    AtMostHalted c (receiveCompleted v number s).sweeper := by
  unfold receiveCompleted
  (repeat' split) <;> simp [h]

@[simp] theorem atMostHalted_blockRequest (r : SweepRecord) (h : AtMostHalted c s.sweeper) :
    AtMostHalted c (blockRequest r s).sweeper := by
  unfold blockRequest
  dsimp only
  (repeat' split) <;> simp [h]

@[simp] theorem atMostHalted_judgeSweep (number : Word) (h : AtMostHalted c s.sweeper) :
    AtMostHalted c (judgeSweep number s).sweeper := by
  unfold judgeSweep
  dsimp only
  split <;> simp [h]

end

/-! ## The sweep completion (R11, R12, R28) -/

section
variable {s : State} {r : SweepRecord}

/-- What the completion of a sweep has made of the Sweep Controller when the verdict has been received. -/
theorem judgeSweep_sweeper (number : Word) (s : State) :
    AtMostHalted { s.sweeper with sweep := none } (judgeSweep number { s with sweeper.sweep := none }).sweeper :=
  atMostHalted_judgeSweep number (.refl _)

/-- A run that was STOPPING has ended at the completion; its deferred STOP_RUN is answered (R12, R20, R151). -/
theorem answerDeferredStop_deferred (s : State) : ∀ q, (answerDeferredStop s).manager.deferred ≠ .stopRun q := by
  intro q
  unfold answerDeferredStop
  split
  · simp
  · next h => simp [h]
  · next h => simp [h]

/-- A STOPPING run ends with its sweep. -/
theorem sweepCompletion_of_run_stopping (hrun : s.sweeper.run = .stopping) :
    (sweepCompletion r s).sweeper = { s.sweeper with
      sweep := none, run := .stopped, pacer := none, endCause := some s.sweeper.recordedCause } ∧
    ∀ q, (sweepCompletion r s).manager.deferred ≠ .stopRun q := by
  have hjudged : (judgeSweep r.number { s with sweeper.sweep := none }).sweeper = { s.sweeper with sweep := none } := by
    rcases judgeSweep_sweeper r.number s with h | h
    · exact h
    · exact h.trans (halted_of_ending (.inr hrun))
  have hstopping : (judgeSweep r.number { s with sweeper.sweep := none }).sweeper.run = .stopping := by rw [hjudged]; exact hrun
  rw [sweepCompletion_of_stopping hstopping, runAfterCompletion, hstopping]
  refine ⟨?_, fun q => ?_⟩
  · have hended : AtMostHalted { s.sweeper with
        sweep := none, run := .stopped, pacer := none, endCause := some s.sweeper.recordedCause }
        (runEndReport (answerDeferredStop (endRun (judgeSweep r.number { s with sweeper.sweep := none }).sweeper.recordedCause
          (judgeSweep r.number { s with sweeper.sweep := none })))).sweeper := by
      refine atMostHalted_runEndReport (.inl ?_)
      simp only [answerDeferredStop_keeps, endRun, postNotice_keeps, hjudged]
      rfl
    rcases hended with h | h
    · exact h
    · rw [h, halted_of_ending (.inl rfl)]
  · simpa using answerDeferredStop_deferred _ q

/-- Any other run goes on, or has been halted; a burst whose last sweep this was waits for the line (R12, R17). -/
theorem sweepCompletion_of_run_going (hrun : s.sweeper.run = .running ∨ s.sweeper.run = .burst) :
    (sweepCompletion r s).manager = s.manager ∧
    ((sweepCompletion r s).sweeper = { s.sweeper with sweep := none, run := .stopped, pacer := none, endCause := some .halt } ∨
      ((sweepCompletion r s).sweeper = { s.sweeper with sweep := none } ∧
        (s.sweeper.run = .burst → 0 < s.sweeper.burstCount)) ∨
      (s.sweeper.run = .burst ∧ s.sweeper.burstCount = 0 ∧
        (sweepCompletion r s).sweeper = { s.sweeper with sweep := none, run := .waitingLine })) := by
  have hmanager : (judgeSweep r.number { s with sweeper.sweep := none }).manager = s.manager := by simp
  rcases judgeSweep_sweeper r.number s with hjudged | hjudged
  · have hnot : (judgeSweep r.number { s with sweeper.sweep := none }).sweeper.run ≠ .stopping := by
      rw [hjudged]
      rcases hrun with h | h <;> simp [h]
    rw [sweepCompletion_of_not_stopping hnot]
    by_cases hover : s.sweeper.run = .burst ∧ s.sweeper.burstCount = 0
    · rw [runAfterCompletion_of_burst_over (by rw [hjudged]; exact hover.1) (by rw [hjudged]; exact hover.2)]
      exact ⟨hmanager, .inr (.inr ⟨hover.1, hover.2, by rw [hjudged]⟩)⟩
    · have hcount (hb : s.sweeper.run = .burst) : 0 < s.sweeper.burstCount :=
        Nat.pos_of_ne_zero fun hz => hover ⟨hb, hz⟩
      rw [runAfterCompletion_of_going]
      · exact ⟨hmanager, .inr (.inl ⟨hjudged, hcount⟩)⟩
      · rw [hjudged]
        exact hrun.imp_right fun hb => .inr ⟨hb, hcount hb⟩
  · rw [halted_of_no_sweep rfl (by rcases hrun with h | h <;> simp [h]) (by rcases hrun with h | h <;> simp [h])] at hjudged
    rw [sweepCompletion_of_not_stopping (by simp [hjudged]), runAfterCompletion_of_going (.inr (.inl (by rw [hjudged])))]
    exact ⟨hmanager, .inl hjudged⟩

theorem runInv_sweepCompletion (h : SweeperInv s.sweeper s.manager.deferred) (hs : s.sweeper.sweep = some r)
    (hcursor : s.tracker.cursor = none) (hempty : s.tracker.inFlight = []) : RunInv (sweepCompletion r s) := by
  have idle {c : SweepController} (hc : (sweepCompletion r s).sweeper = c) (hnone : c.sweep = none)
      (hinv : SweeperInv c (sweepCompletion r s).manager.deferred) : RunInv (sweepCompletion r s) := by
    subst hc
    exact (runInv_iff _).mpr ⟨hinv, fun _ => by simp [hcursor, hempty], fun hsome => by simp [hnone] at hsome⟩
  cases hrun : s.sweeper.run with
  | stopped => simp [h.noSweep (.inl hrun)] at hs
  | waitingLine => simp [h.noSweep (.inr hrun)] at hs
  | stopping =>
    obtain ⟨hsweeper, hd⟩ := sweepCompletion_of_run_stopping (r := r) hrun
    exact idle hsweeper rfl (.of_stopped rfl rfl rfl hd)
  | running | burst =>
    obtain ⟨hmanager, hcases⟩ := sweepCompletion_of_run_going (s := s) (r := r) (by simp [hrun])
    have hd : ∀ q, s.manager.deferred ≠ .stopRun q := h.no_deferred (by simp [hrun])
    rcases hcases with hsweeper | ⟨hsweeper, hcount⟩ | ⟨hburst, hzero, hsweeper⟩
    · exact idle hsweeper rfl (.of_stopped rfl rfl rfl (hmanager ▸ hd))
    · refine idle hsweeper rfl (hmanager ▸ ?_)
      obtain ⟨h1, h2, h3, h4, -, -⟩ := h
      exact ⟨fun _ => rfl, fun hst => by simp [hrun] at hst, h3, h4, fun hb hz => absurd hz (Nat.ne_of_gt (hcount hb)),
        fun q hq => absurd hq (hd q)⟩
    · refine idle hsweeper rfl (hmanager ▸ ?_)
      obtain ⟨hpacer, -⟩ := h.burstLast hburst hzero
      constructor <;> simp [hpacer, hd]

/-- The completion test restores what a completed request may have left undone. -/
theorem runInv_checkCompletion (h : SweeperInv s.sweeper s.manager.deferred) (hidle : TrackerIdle s) :
    RunInv (checkCompletion s) := by
  unfold checkCompletion
  split
  · next r hr =>
    split
    · next hdone => exact runInv_sweepCompletion h hr hdone.1 hdone.2
    · next hleft =>
      refine (runInv_iff s).mpr ⟨h, hidle, fun _ => ?_⟩
      rcases not_and_or.mp hleft with hc | he
      · exact .inl (Option.isSome_iff_ne_none.mpr hc)
      · exact .inr he
  · next hnone => exact (runInv_iff s).mpr ⟨h, hidle, fun hsome => by simp [hnone] at hsome⟩

/-! ## The tracker (R28, R42 to R44) -/

/-- An issue has the cursor at an entry, so a sweep is in progress, and its entry is in flight. -/
theorem runInv_issueTest (h : RunInv s) : RunInv (issueTest s) := by
  refine issueLoop_of (P := RunInv) (fun u i t hr hu => ?_) _ _ h
  obtain ⟨-, -, -, hcursor, -⟩ := readyToIssue_some hr
  obtain ⟨hsweeper, hidle, -⟩ := (runInv_iff u).mp hu
  exact (runInv_iff _).mpr ⟨hsweeper, fun hnone => by simp [(hidle hnone).1] at hcursor, fun _ => .inr (by simp [issueEntry])⟩

theorem runInv_completeRequest (e : InFlight) (content : Content) (x : TagState) (h : RunInv s) :
    RunInv (completeRequest e content x s) := by
  obtain ⟨hsweeper, hidle, -⟩ := (runInv_iff s).mp h
  refine runInv_issueTest (runInv_checkCompletion (by simpa using hsweeper) fun hnone => ?_)
  obtain ⟨hcursor, hempty⟩ := hidle (by simpa using hnone)
  simp [hcursor, removeEntry, hempty]

theorem runInv_fillRest (h : SweeperInv s.sweeper s.manager.deferred) (hidle : TrackerIdle s) : RunInv (fillRest s) := by
  refine runInv_checkCompletion (by simpa using h) fun hnone => ?_
  obtain ⟨hcursor, hempty⟩ := hidle (by simpa using hnone)
  rw [linkFill_of_none _ hcursor]
  exact ⟨hcursor, hempty⟩

theorem runInv_timedReply (f : SampleFrame) (e : InFlight) (h : RunInv s) : RunInv (timedReply f e s) := by
  unfold timedReply
  split
  · exact runInv_completeRequest _ _ _ h
  · exact runInv_completeRequest _ _ _ (h.of_eq rfl rfl rfl rfl)

theorem runInv_matchReply (f : SampleFrame) (h : RunInv s) : RunInv (matchReply f s) := by
  unfold matchReply
  split
  · exact runInv_issueTest (h.of_eq rfl rfl rfl rfl)
  · split
    · split
      · exact runInv_timedReply _ _ h
      · exact h.of_eq rfl rfl rfl rfl
    · exact h.of_eq rfl rfl rfl rfl
  · exact h.of_eq rfl rfl rfl rfl
  · exact h.of_eq rfl rfl rfl rfl

theorem runInv_requestTimesOut (t : Nat) (h : RunInv s) : RunInv (requestTimesOut t s) := by
  unfold requestTimesOut
  split
  · split
    · exact runInv_completeRequest _ _ _ (h.of_eq rfl rfl rfl rfl)
    · exact h
  · exact h

theorem runInv_quarantineEnds (t : Nat) (h : RunInv s) : RunInv (quarantineEnds t s) := by
  unfold quarantineEnds
  split
  · exact runInv_issueTest (h.of_eq rfl rfl rfl rfl)
  all_goals exact h

theorem runInv_spacingExpires (h : RunInv s) : RunInv (spacingExpires s) := by
  unfold spacingExpires
  split
  · exact runInv_issueTest (h.of_eq rfl rfl rfl rfl)
  · exact h

/-! ## The sweep start (R10, R19) -/

/-- A sweep may start: the run goes, no sweep is in progress, and no pacer runs on after the last one of a burst. -/
structure SweepReady (c : SweepController) (d : Deferred) : Prop where
  goes : c.run = .running ∨ c.run = .burst
  noSweep : c.sweep = none
  paced : c.run = .running → c.pacer.isSome
  lastOfBurst : c.run = .burst → c.burstCount = 0 → c.pacer = none
  noStop : ∀ r, d ≠ .stopRun r

theorem burstPacer_zero (period : Nat) : burstPacer 0 period = none := rfl

/-- A free-running run is ready for its next sweep once the last is over. -/
theorem SweeperInv.ready_of_running {c : SweepController} {d : Deferred} (h : SweeperInv c d) (hrun : c.run = .running)
    (hnone : c.sweep = none) (period : Nat) : SweepReady { c with pacer := some period } d :=
  ⟨.inl hrun, hnone, fun _ => rfl, fun hb => by simp [hrun] at hb, h.no_deferred (by simp [hrun])⟩

/-- A burst with sweeps to come is ready for the next once the last is over. -/
theorem SweeperInv.ready_of_burst {c : SweepController} {d : Deferred} (h : SweeperInv c d) (hrun : c.run = .burst)
    (hnone : c.sweep = none) (count period : Nat) :
    SweepReady { c with burstCount := count, pacer := burstPacer count period } d := by
  refine ⟨.inr hrun, hnone, fun hr => by simp [hrun] at hr, fun _ hz => ?_, h.no_deferred (by simp [hrun])⟩
  simp only at hz
  simp only [hz, burstPacer_zero]

/-- A start edge begins a burst (R16). -/
theorem SweeperInv.ready_of_line {c : SweepController} {d : Deferred} (h : SweeperInv c d) (hrun : c.run = .waitingLine)
    (level : Bool) (count period : Nat) :
    SweepReady { c with startLevel := level, run := .burst, burstCount := count, pacer := burstPacer count period } d := by
  refine ⟨.inr rfl, h.noSweep (.inr hrun), fun hr => by simp at hr, fun _ hz => ?_, h.no_deferred (by simp [hrun])⟩
  simp only at hz
  simp only [hz, burstPacer_zero]

/-- A free-running run starts with a sweep (R9). -/
theorem SweeperInv.ready_of_stopped {c : SweepController} {d : Deferred} (h : SweeperInv c d) (hrun : c.run = .stopped)
    (period : Nat) : SweepReady { c with run := .running, pacer := some period } d :=
  ⟨.inl rfl, h.noSweep (.inl hrun), fun _ => rfl, fun hb => by simp at hb, h.no_deferred (by simp [hrun])⟩

theorem sweeperInv_applyLimit {d : Deferred} (h : SweeperInv s.sweeper d) (hs : s.sweeper.sweep.isSome) :
    SweeperInv (applyLimit s).sweeper d := by
  rw [applyLimit_eq]
  split
  · split
    · exact .stop hs .limit
    · next hnot =>
      obtain ⟨h1, h2, h3, h4, h5, h6⟩ := h
      exact ⟨h1, h2, by simp [cancelPacer], fun hr => absurd (.inl hr) hnot, fun hb => absurd (.inr hb) hnot, h6⟩
  · exact h

theorem sweeperInv_markStarted (h : SweepReady s.sweeper s.manager.deferred) :
    SweeperInv (markStarted s).sweeper s.manager.deferred := by
  obtain ⟨hgoes, -, hpaced, hlast, hno⟩ := h
  refine ⟨fun hst => ?_, fun hst => ?_, fun _ => hgoes, hpaced, fun hb hz => ⟨hlast hb hz, rfl⟩, fun q hq => absurd hq (hno q)⟩
  · rcases hgoes with hr | hr <;> simp [markStarted, hr] at hst
  · rcases hgoes with hr | hr <;> simp [markStarted, hr] at hst

theorem runInv_beginIssuing (h : SweeperInv s.sweeper s.manager.deferred) (hs : s.sweeper.sweep.isSome) :
    RunInv (beginIssuing s) := by
  have hidle : TrackerIdle { s with tracker.cursor := some 0, tracker.spacing := none } := fun hnone => by
    simp only at hnone
    simp [hnone] at hs
  unfold beginIssuing
  dsimp only
  split
  · exact runInv_issueTest ((runInv_iff _).mpr ⟨h, hidle, fun _ => .inl rfl⟩)
  · exact runInv_fillRest h hidle

/-- As issuing begins, the sweep is in progress and the run agrees with it, whatever the block request demanded. -/
theorem sweeperInv_beforeIssuing (h : SweepReady s.sweeper s.manager.deferred) :
    SweeperInv (applyLimit (triggerSweepStart (blockRequest s.startingSweep (markStarted s)))).sweeper
      s.manager.deferred ∧
    (applyLimit (triggerSweepStart (blockRequest s.startingSweep (markStarted s)))).sweeper.sweep.isSome := by
  have hblock : AtMostHalted (markStarted s).sweeper (blockRequest s.startingSweep (markStarted s)).sweeper :=
    atMostHalted_blockRequest _ (.refl _)
  have hsweep : (triggerSweepStart (blockRequest s.startingSweep (markStarted s))).sweeper.sweep.isSome := by
    rw [triggerSweepStart_keeps _ |>.1, hblock.sweep]
    rfl
  have hstarted := hblock.sweeperInv (sweeperInv_markStarted h)
  exact ⟨sweeperInv_applyLimit (by simpa using hstarted) hsweep, by simpa using hsweep⟩

theorem runInv_sweepStart (h : SweepReady s.sweeper s.manager.deferred) : RunInv (sweepStart s) := by
  obtain ⟨hsweeper, hsweep⟩ := sweeperInv_beforeIssuing h
  exact runInv_beginIssuing (by simpa using hsweeper) hsweep

/-! ## The pacer and the start line (R6, R13 to R17) -/

theorem runInv_pacerEvent (h : s.sweeper.sweep.isSome → RunInv s)
    (hready : s.sweeper.sweep = none → SweepReady s.sweeper s.manager.deferred) : RunInv (pacerEvent s) := by
  unfold pacerEvent
  split
  · next hs =>
    obtain ⟨hsweeper, hidle, hbusy⟩ := (runInv_iff s).mp (h hs)
    exact (runInv_iff _).mpr ⟨hsweeper.of_eq rfl rfl rfl rfl rfl, hidle, hbusy⟩
  · next hs => exact runInv_sweepStart (hready (Option.not_isSome_iff_eq_none.mp hs))

theorem runInv_pacerExpires (h : RunInv s) : RunInv (pacerExpires s) := by
  obtain ⟨hsweeper, hidle, hbusy⟩ := (runInv_iff s).mp h
  unfold pacerExpires
  split
  · next hp hrun =>
    have hno := hsweeper.no_deferred (by simp [hrun])
    refine runInv_pacerEvent (fun hs => (runInv_iff _).mpr ⟨?_, hidle, hbusy⟩) fun hnone => ?_
    · constructor <;> simp [hrun, hno]
    · exact hsweeper.ready_of_running hrun hnone _
  · next hp hrun =>
    have hno := hsweeper.no_deferred (by simp [hrun])
    refine runInv_pacerEvent (fun hs => (runInv_iff _).mpr ⟨?_, hidle, hbusy⟩) fun hnone => ?_
    · refine ⟨by simp [hrun], by simp [hrun], fun _ => .inr hrun, fun hr => by simp [hrun] at hr, fun _ hz => ?_,
        fun q hq => absurd hq (hno q)⟩
      simp only at hz
      exact ⟨by simp only [hz, burstPacer_zero], hs⟩
    · exact hsweeper.ready_of_burst hrun hnone _ _
  all_goals exact h

theorem runInv_startLineLevel (level : Bool) (h : RunInv s) : RunInv (startLineLevel level s) := by
  obtain ⟨hsweeper, hidle, hbusy⟩ := (runInv_iff s).mp h
  have hlevel : RunInv { s with sweeper.startLevel := level } :=
    (runInv_iff _).mpr ⟨hsweeper.of_eq rfl rfl rfl rfl rfl, hidle, hbusy⟩
  unfold startLineLevel
  split
  · exact h
  · dsimp only
    split
    · unfold startEdgeSeen
      split
      · next hrun =>
        exact runInv_sweepStart (hsweeper.ready_of_line hrun level _ _)
      · exact hlevel.of_eq rfl rfl rfl rfl
      · exact hlevel.of_eq rfl rfl rfl rfl
      all_goals exact hlevel
    · exact hlevel

/-! ## START_RUN, STOP_RUN and RESET_ENGINE (R9, R21, R152) -/

theorem runInv_enterRun (hrun : s.sweeper.run = .stopped) (h : RunInv s) : RunInv (enterRun s) := by
  obtain ⟨hsweeper, hidle, hbusy⟩ := (runInv_iff s).mp h
  have hnone := hsweeper.noSweep (.inl hrun)
  have hno := hsweeper.no_deferred (by simp [hrun])
  unfold enterRun
  split
  · exact runInv_sweepStart (hsweeper.ready_of_stopped hrun _)
  · refine (runInv_iff _).mpr ⟨?_, hidle, hbusy⟩
    constructor <;> simp [hnone, hno]

theorem runInv_startRunBody (lines : Lines) (r : Request) (h : RunInv s) : RunInv (startRunBody lines r s) := by
  unfold startRunBody
  split
  · split
    · exact h.of_eq rfl rfl rfl rfl
    · next hchecked =>
      split
      · exact h.of_eq rfl rfl rfl rfl
      · obtain ⟨hstopped, -⟩ := not_or.mp hchecked
        have hrun : s.sweeper.run = .stopped := not_not.mp hstopped
        obtain ⟨hsweeper, hidle, hbusy⟩ := (runInv_iff s).mp h
        have hnone := hsweeper.noSweep (.inl hrun)
        have hpacer : s.sweeper.pacer = none := by
          refine Option.not_isSome_iff_eq_none.mp fun hp => ?_
          rcases hsweeper.pacerRuns hp with hr | hr <;> simp [hrun] at hr
        have hprepared : (prepareRun (seeLines lines s)).sweeper = { s.sweeper with
            fixedS := s.prospectiveS, sweepNumber := 0, gapPending := false, endCause := none } := by
          simp only [prepareRun, restartCapture]
          split <;> simp [State.prospectiveS]
        refine RunInv.of_eq (runInv_enterRun (s := prepareRun (seeLines lines s)) ?_ ?_) rfl rfl rfl rfl
        · rw [hprepared]
          exact hrun
        · refine (runInv_iff _).mpr ⟨?_, fun _ => by simpa using hidle hnone, fun hsome => ?_⟩
          · rw [hprepared]
            exact .of_stopped hrun hnone hpacer (by simpa using hsweeper.no_deferred (by simp [hrun]))
          · simp [hprepared, hnone] at hsome
  · exact h.of_eq rfl rfl rfl rfl

/-- A run without a sweep in progress ends at once, and its end is reported (R20, R21). -/
theorem runInv_endAtOnce (cause : EndCause) (h : RunInv s) (hnone : s.sweeper.sweep = none) :
    RunInv (runEndReport (endRun cause s)) := by
  obtain ⟨hsweeper, hidle, -⟩ := (runInv_iff s).mp h
  have hnot : s.sweeper.run ≠ .stopping := fun hr => by simpa [hnone] using (hsweeper.stopping hr).1
  have hended : AtMostHalted (endRun cause s).sweeper (runEndReport (endRun cause s)).sweeper :=
    atMostHalted_runEndReport (.refl _)
  have hsweep : (runEndReport (endRun cause s)).sweeper.sweep = none := by
    rw [hended.sweep]
    simpa using hnone
  refine (runInv_iff _).mpr ⟨hended.sweeperInv (.of_stopped ?_ (by simpa using hnone) ?_ ?_),
    fun _ => by simpa using hidle hnone, fun hsome => absurd (hsweep ▸ hsome) (by simp)⟩
  · simp [endRun]
  · simp [endRun]
  · simpa using hsweeper.no_deferred hnot

theorem runInv_stopRunBody (r : Request) (h : RunInv s) : RunInv (stopRunBody r s) := by
  obtain ⟨hsweeper, hidle, hbusy⟩ := (runInv_iff s).mp h
  have going : RunInv (if s.sweeper.sweep.isSome then deferStop r (beginStopping .stopRequest) s
      else respond r .done [] (runEndReport (endRun .stopRequest s))) := by
    split
    · next hs =>
      unfold deferStop
      split
      · refine (runInv_iff _).mpr ⟨?_, hidle, hbusy⟩
        constructor <;> simp [beginStopping, hs]
      all_goals exact h.of_eq rfl rfl rfl rfl
    · next hs => exact (runInv_endAtOnce .stopRequest h (Option.not_isSome_iff_eq_none.mp hs)).of_eq rfl rfl rfl rfl
  unfold stopRunBody
  split
  · split
    · exact h.of_eq rfl rfl rfl rfl
    · next hrun =>
      exact (runInv_endAtOnce .stopRequest h (hsweeper.noSweep (.inr hrun))).of_eq rfl rfl rfl rfl
    · exact going
    · exact going
    · next hrun =>
      unfold deferStop
      split
      · obtain ⟨h1, h2, h3, h4, h5, -⟩ := hsweeper
        exact (runInv_iff _).mpr ⟨⟨h1, h2, h3, h4, h5, fun _ _ => hrun⟩, hidle, hbusy⟩
      all_goals exact h.of_eq rfl rfl rfl rfl
  · exact h.of_eq rfl rfl rfl rfl

/-- The Sweep Program is no part of the agreement. -/
theorem runInv_writeProgramEntryBody (r : Request) (h : RunInv s) : RunInv (writeProgramEntryBody r s) := by
  obtain ⟨hsweeper, hidle, hbusy⟩ := (runInv_iff s).mp h
  unfold writeProgramEntryBody
  (repeat' split)
  · exact (runInv_iff _).mpr ⟨hsweeper.of_eq rfl rfl rfl rfl rfl, hidle, hbusy⟩
  all_goals exact h.of_eq rfl rfl rfl rfl

theorem runInv_resetEngineBody (r : Request) (h : RunInv s) : RunInv (resetEngineBody r s) := by
  unfold resetEngineBody
  split
  · obtain ⟨⟨h1, h2, h3, h4, h5, -⟩, hidle, hbusy⟩ := (runInv_iff s).mp h
    refine (runInv_iff _).mpr ⟨?_, fun hnone => ?_, fun hsome => ?_⟩
    · simp only [supersedeStop_keeps]
      exact ⟨h1, h2, h3, h4, h5, by simp⟩
    · simpa using hidle (by simpa using hnone)
    · simpa using hbusy (by simpa using hsome)
  · exact h.of_eq rfl rfl rfl rfl

theorem runInv_resetCompletes (h : RunInv s) : RunInv (resetCompletes s) := by
  unfold resetCompletes
  split
  · split
    · refine (runInv_iff _).mpr ⟨.of_stopped rfl rfl rfl (by simp), fun _ => ⟨rfl, rfl⟩, fun hsome => ?_⟩
      simp [respond, resetBlocks, SweepController.resetEngine] at hsome
    · exact h
  all_goals exact h

/-! ## The intake link (R43, R44, R174) -/

theorem runInv_upFrameEnded (h : RunInv s) : RunInv (upFrameEnded s) := by
  unfold upFrameEnded
  split
  · obtain ⟨hsweeper, hidle, hbusy⟩ := (runInv_iff s).mp h
    refine (runInv_iff _).mpr ⟨hsweeper, fun hnone => ?_, fun hsome => ?_⟩
    · obtain ⟨hc, he⟩ := hidle hnone
      exact ⟨hc, by simp [startTimeout, he]⟩
    · exact (hbusy hsome).imp_right fun he => by simpa [startTimeout] using he
  · exact h.of_eq rfl rfl rfl rfl
  · exact h

/-- With no sweep in progress there is nothing to withdraw. -/
theorem trackerIdle_withdrawConverts (h : TrackerIdle s) : TrackerIdle (withdrawConverts s) := by
  have all (l : List ConvertFrame) : ∀ u : State, TrackerIdle u → TrackerIdle (l.foldl withdrawEntry u) := by
    induction l with
    | nil => exact fun u hu => hu
    | cons f l ih =>
      refine fun u hu => ih _ fun hnone => ?_
      obtain ⟨hc, he⟩ := hu (by simpa using hnone)
      exact ⟨by simpa using hc, by simp [withdrawEntry, he]⟩
  exact all s.tracker.converts s h

theorem runInv_setLink (p : Port) (l : Link) (h : RunInv s) : RunInv (setLink p l s) := by
  cases p with
  | delivery => exact h.of_eq (by simp [setLink]) (by simp [setLink]) (by simp [setLink]) (by simp [setLink])
  | intake =>
    rw [setLink]
    by_cases hdrop : s.intake.link.state = .up ∧ l.state = .down
    · rw [setIntakeLink_of_drop hdrop.1 hdrop.2]
      obtain ⟨hsweeper, hidle, -⟩ :=
        (runInv_iff _).mp (runInv_upFrameEnded (s := { s with intake.link := l }) (h.of_eq rfl rfl rfl rfl))
      unfold intakeDropped
      refine RunInv.of_eq (runInv_fillRest ?_ (trackerIdle_withdrawConverts ?_)) (postNotice_keeps _ _).1 ?_ ?_ ?_
      · simpa using hsweeper
      · exact hidle
      all_goals simp
    · rw [setIntakeLink_of_no_drop hdrop]
      split
      · exact h.of_eq (by simp) (by simp) (by simp) (by simp)
      · exact h.of_eq rfl rfl rfl rfl

theorem runInv_receiveBadFrame (p : Port) (h : RunInv s) : RunInv (receiveBadFrame p s) := by
  rw [receiveBadFrame_eq]
  split
  · exact runInv_setLink _ _ (h.of_eq (by simp) (by simp) (by simp) (by simp))
  · exact runInv_setLink _ _ h

theorem runInv_receiveSample (f : SampleFrame) (h : RunInv s) : RunInv (receiveSample f s) := by
  have hlink := runInv_setLink .intake (s.link .intake).good h
  exact receiveGoodFrame_of hlink fun _ => runInv_matchReply f hlink

theorem runInv_receiveIntakeFrame (f : RawFrame) (h : RunInv s) : RunInv (receiveIntakeFrame f s) := by
  have hlink := runInv_setLink .intake (s.link .intake).good h
  unfold receiveIntakeFrame
  split
  · split
    · split
      · exact runInv_receiveSample _ h
      · exact runInv_receiveBadFrame _ h
    · exact receiveGoodFrame_of hlink fun _ => hlink.of_eq (by simp) (by simp) (by simp) (by simp)
  · exact runInv_receiveBadFrame _ h

theorem runInv_receiveRequest (r : Request) (h : RunInv s) : RunInv (receiveRequest r s) := by
  have hlink := runInv_setLink .delivery (s.link .delivery).good h
  unfold receiveRequest
  split
  · exact receiveGoodFrame_of hlink fun _ => hlink.of_eq (by simp) (by simp) (by simp) (by simp)
  · exact runInv_receiveBadFrame _ h

theorem runInv_frameWhileAligning (p : Port) (good : Bool) (h : RunInv s) : RunInv (frameWhileAligning p good s) := by
  unfold frameWhileAligning goodReception badReception
  (repeat' split)
  · exact runInv_setLink _ _ h
  · exact runInv_setLink _ _ h
  · exact h

theorem runInv_convertEnds (h : RunInv s) : RunInv (convertEnds s) := by
  unfold convertEnds
  split
  · exact runInv_upFrameEnded h
  all_goals exact h

theorem runInv_otherFrameEnds (p : Port) (h : RunInv s) : RunInv (otherFrameEnds p s) := by
  unfold otherFrameEnds
  cases p with
  | intake =>
    dsimp only
    split
    · exact runInv_upFrameEnded h
    all_goals exact h
  | delivery =>
    dsimp only
    split
    · exact h.of_eq (by simp) (by simp) (by simp) (by simp)
    · exact h.of_eq (by simp) (by simp) (by simp) (by simp)
    · exact h.of_eq (by simp) (by simp) (by simp) (by simp)
    all_goals exact h

/-! ## The clock (R6) -/

theorem runInv_tick (h : RunInv s) : RunInv (tick s) := by
  obtain ⟨⟨h1, h2, h3, h4, h5, h6⟩, hidle, hbusy⟩ := (runInv_iff s).mp h
  refine (runInv_iff _).mpr ⟨⟨h1, h2, by simpa [tick] using h3, by simpa [tick] using h4, by simpa [tick] using h5, h6⟩,
    by simpa [TrackerIdle, tick] using hidle, by simpa [tick] using hbusy⟩

theorem runInv_idle (h : RunInv s) : RunInv (idle s) := by
  unfold idle
  split
  · exact h.of_eq rfl rfl rfl rfl
  · split
    · unfold clockCycle
      dsimp only
      split
      · exact h.of_eq rfl rfl rfl rfl
      · exact runInv_tick (h.of_eq rfl rfl rfl rfl)
    · exact h.of_eq rfl rfl rfl rfl

/-! ## Every command -/

theorem runInv_effect (c : Instr) (h : RunInv s) : RunInv (effect c s) := by
  have hpop : RunInv (popRequest s) := h.of_eq (by simp) rfl (by simp) (by simp)
  have seen (lines : Lines) : RunInv (seeLines lines s) := h.of_eq rfl rfl rfl rfl
  cases c with
  | startRun lines => exact executeFront_of h fun r _ => runInv_startRunBody lines r hpop
  | stopRun => exact executeFront_of h fun r _ => runInv_stopRunBody r hpop
  | resetEngine => exact executeFront_of h fun r _ => runInv_resetEngineBody r hpop
  | writeProgramEntry => exact executeFront_of h fun r _ => runInv_writeProgramEntryBody r hpop
  | echo | readStatus | setParameter | getParameter | readProgramEntry | writeCondition | readCondition
  | forceTrigger | arm | disarm | clearHalt | openWindow | closeWindow | discardRecord | readCounters =>
    exact h.of_eq (executeFront_frame (·.sweeper) (by simp) (by simp))
      (executeFront_frame (·.manager.deferred) (by simp) (by simp))
      (executeFront_frame (·.tracker.cursor) (by simp) (by simp))
      (executeFront_frame (·.tracker.inFlight) (by simp) (by simp))
  | unknownRequestKind | trigoutPulseExpiry | recordFrameEnd =>
    exact h.of_eq (by simp [effect]) (by simp [effect]) (by simp [effect]) (by simp [effect])
  | requestArrival r => exact runInv_receiveRequest r h
  | sampleReceived f lines => exact runInv_receiveSample f (seen lines)
  | passbackReceived f => exact runInv_receiveIntakeFrame f h
  | badFrame p lines => exact runInv_receiveBadFrame p (seen lines)
  | idleAlignmentSequence p => exact runInv_setLink _ _ h
  | goodIdleGroup p => exact runInv_setLink _ _ h
  | malformedIdleGroup p lines => exact runInv_setLink _ _ (seen lines)
  | lossOfSignal p lines => exact runInv_setLink _ _ (seen lines)
  | frameReceivedWhileAligning p good => exact runInv_frameWhileAligning p good h
  | pacerExpiry lines => exact runInv_pacerExpires (seen lines)
  | sweepStartEdge level lines => exact runInv_startLineLevel level (seen lines)
  | spacingTimerExpiry lines => exact runInv_spacingExpires (seen lines)
  | convertSent => exact runInv_convertEnds h
  | requestTimeout tag lines => exact runInv_requestTimesOut _ (seen lines)
  | quarantineExpiry tag lines => exact runInv_quarantineEnds _ (seen lines)
  | frameTransmissionEnd p => exact runInv_otherFrameEnds p h
  | resetEffects => exact runInv_resetCompletes h
  | hardReset straps level => exact (inv_afterReset (nodeOfStraps straps) level).run.of_eq rfl rfl rfl rfl

end

theorem runInv_step : ∀ s t : State, RunInv s → step s = .next t → RunInv t :=
  step_keeps (P := RunInv) (fun _ _ h => h.of_eq rfl rfl rfl rfl) (fun c _ => runInv_effect c)
    (fun _ h => h.of_eq (by simp) (by simp) (by simp) (by simp)) (fun _ => runInv_idle)

end Sys2Proof.Machine
end

section
/-! PROOFS. Every step keeps the sizes of the tables, and what the conditions promise (01, 03): part of O9. -/

namespace Sys2Proof.Machine

/-! ## The condition table (R48, R49, R55) -/

/-- A condition table comes of another: as many conditions, and, if every condition agreed with itself, so does each of
these, and they have the roles of the others. -/
def TableKept (cs cs' : List Condition) : Prop :=
  cs'.length = cs.length ∧
    ((∀ c ∈ cs, ConditionInv c) →
      (∀ c ∈ cs', ConditionInv c) ∧ ((∀ c ∈ cs', c.role ≠ .qualify) ↔ ∀ c ∈ cs, c.role ≠ .qualify))

theorem TableKept.refl (cs : List Condition) : TableKept cs cs := ⟨rfl, fun h => ⟨h, Iff.rfl⟩⟩

/-- What keeps every condition's invariant and role keeps the table's. -/
theorem TableKept.map {cs cs' : List Condition} (h : TableKept cs cs') {g : Condition → Condition}
    (hg : ∀ c, ConditionInv c → ConditionInv (g c) ∧ (g c).role = c.role) : TableKept cs (cs'.map g) := by
  obtain ⟨hlength, hkept⟩ := h
  refine ⟨by simpa using hlength, fun hcs => ?_⟩
  obtain ⟨hinv, hroles⟩ := hkept hcs
  refine ⟨fun c hc => ?_, ?_⟩
  · obtain ⟨x, hx, rfl⟩ := List.mem_map.mp hc
    exact (hg x (hinv x hx)).1
  · rw [← hroles]
    constructor
    · intro h x hx hq
      exact h (g x) (List.mem_map_of_mem hx) ((hg x (hinv x hx)).2.trans hq)
    · intro h c hc
      obtain ⟨x, hx, rfl⟩ := List.mem_map.mp hc
      rw [(hg x (hinv x hx)).2]
      exact h x hx

section
variable {cs : List Condition} {s : State}

@[simp] theorem tableKept_handSample (x : Sample) (h : TableKept cs s.trigger.conditions) :
    TableKept cs (handSample x s).trigger.conditions := by
  have hmap : (handSample x s).trigger.conditions = s.trigger.conditions.map (Condition.onEntry x.index x.content) := by
    simp [handSample, triggerSample, mapConditions]
  rw [hmap]
  exact h.map fun _ => conditionInv_onEntry _ _

@[simp] theorem tableKept_triggerSweepStart (h : TableKept cs s.trigger.conditions) :
    TableKept cs (triggerSweepStart s).trigger.conditions := by
  refine h.map fun c hc => ?_
  obtain ⟨hunfired, hrole⟩ := conditionInv_unfired hc
  obtain ⟨hlines, hrole'⟩ := conditionInv_onLines s.lines hunfired
  exact ⟨hlines, hrole'.trans hrole⟩

@[simp] theorem tableKept_missingLink (i : Nat) (h : TableKept cs s.trigger.conditions) :
    TableKept cs (missingLink i s).trigger.conditions := tableKept_handSample _ h

@[simp] theorem tableKept_linkFill (n : Nat) (h : TableKept cs s.trigger.conditions) :
    TableKept cs (linkFill n s).trigger.conditions :=
  linkFill_of (P := fun u => TableKept cs u.trigger.conditions) (fun _ i _ hu => tableKept_missingLink i hu) n s h

@[simp] theorem tableKept_fillRest (h : TableKept cs s.trigger.conditions) :
    TableKept cs (fillRest s).trigger.conditions := by simp [fillRest, h]

@[simp] theorem tableKept_withdrawEntry (f : ConvertFrame) (h : TableKept cs s.trigger.conditions) :
    TableKept cs (withdrawEntry s f).trigger.conditions := by
  unfold withdrawEntry
  split <;> simp [h]

@[simp] theorem tableKept_withdrawConverts (h : TableKept cs s.trigger.conditions) :
    TableKept cs (withdrawConverts s).trigger.conditions := by
  have all (l : List ConvertFrame) : ∀ u : State, TableKept cs u.trigger.conditions →
      TableKept cs (l.foldl withdrawEntry u).trigger.conditions := by
    induction l with
    | nil => exact fun u hu => hu
    | cons f l ih => exact fun u hu => ih _ (tableKept_withdrawEntry f hu)
  exact all _ s h

@[simp] theorem tableKept_completeRequest (e : InFlight) (content : Content) (x : TagState)
    (h : TableKept cs s.trigger.conditions) : TableKept cs (completeRequest e content x s).trigger.conditions := by
  simp [completeRequest, h]

@[simp] theorem tableKept_beginIssuing (h : TableKept cs s.trigger.conditions) :
    TableKept cs (beginIssuing s).trigger.conditions := by
  unfold beginIssuing
  dsimp only
  split <;> simp [h]

@[simp] theorem tableKept_sweepStart (h : TableKept cs s.trigger.conditions) :
    TableKept cs (sweepStart s).trigger.conditions := by simp [sweepStart, h]

@[simp] theorem tableKept_pacerExpires (h : TableKept cs s.trigger.conditions) :
    TableKept cs (pacerExpires s).trigger.conditions := by
  unfold pacerExpires pacerEvent missSweep
  (repeat' split) <;> simp [h]

@[simp] theorem tableKept_startLineLevel (level : Bool) (h : TableKept cs s.trigger.conditions) :
    TableKept cs (startLineLevel level s).trigger.conditions := by
  unfold startLineLevel startEdgeSeen
  dsimp only
  (repeat' split) <;> simp [h]

@[simp] theorem tableKept_requestTimesOut (t : Nat) (h : TableKept cs s.trigger.conditions) :
    TableKept cs (requestTimesOut t s).trigger.conditions := by
  unfold requestTimesOut
  (repeat' split) <;> simp [h]

@[simp] theorem tableKept_matchReply (f : SampleFrame) (h : TableKept cs s.trigger.conditions) :
    TableKept cs (matchReply f s).trigger.conditions := by
  unfold matchReply timedReply
  (repeat' split) <;> simp [h]

@[simp] theorem tableKept_intakeDropped (h : TableKept cs s.trigger.conditions) :
    TableKept cs (intakeDropped s).trigger.conditions := by simp [intakeDropped, h]

@[simp] theorem tableKept_setLink (p : Port) (l : Link) (h : TableKept cs s.trigger.conditions) :
    TableKept cs (setLink p l s).trigger.conditions := by
  cases p with
  | intake =>
    simp only [setLink, setIntakeLink]
    (repeat' split) <;> simp [h]
  | delivery => simp [setLink, h]

@[simp] theorem tableKept_receiveBadFrame (p : Port) (h : TableKept cs s.trigger.conditions) :
    TableKept cs (receiveBadFrame p s).trigger.conditions := by
  rw [receiveBadFrame_eq]
  split <;> simp [h]

@[simp] theorem tableKept_receiveSample (f : SampleFrame) (h : TableKept cs s.trigger.conditions) :
    TableKept cs (receiveSample f s).trigger.conditions :=
  receiveGoodFrame_of (P := fun u => TableKept cs u.trigger.conditions) (tableKept_setLink _ _ h)
    fun _ => tableKept_matchReply f (tableKept_setLink _ _ h)

@[simp] theorem tableKept_receiveIntakeFrame (f : RawFrame) (h : TableKept cs s.trigger.conditions) :
    TableKept cs (receiveIntakeFrame f s).trigger.conditions := by
  unfold receiveIntakeFrame
  (repeat' split)
  · simp [h]
  · simp [h]
  · exact receiveGoodFrame_of (P := fun u => TableKept cs u.trigger.conditions) (tableKept_setLink _ _ h)
      fun _ => by simpa using tableKept_setLink _ _ h
  · simp [h]

@[simp] theorem tableKept_receiveRequest (r : Request) (h : TableKept cs s.trigger.conditions) :
    TableKept cs (receiveRequest r s).trigger.conditions := by
  unfold receiveRequest
  split
  · exact receiveGoodFrame_of (P := fun u => TableKept cs u.trigger.conditions) (tableKept_setLink _ _ h)
      fun _ => by simpa using tableKept_setLink _ _ h
  · simp [h]

@[simp] theorem tableKept_prepareRun (h : TableKept cs s.trigger.conditions) :
    TableKept cs (prepareRun s).trigger.conditions := by
  have hmap : (prepareRun s).trigger.conditions = s.trigger.conditions.map fun c => c.unknown.unfired := by
    simp only [prepareRun, restartCapture]
    split <;> simp [mapConditions]
  rw [hmap]
  refine h.map fun c hc => ?_
  obtain ⟨hunknown, hrole⟩ := conditionInv_unknown hc
  obtain ⟨hunfired, hrole'⟩ := conditionInv_unfired hunknown
  exact ⟨hunfired, hrole'.trans hrole⟩

@[simp] theorem tableKept_startRunBody (lines : Lines) (r : Request) (h : TableKept cs s.trigger.conditions) :
    TableKept cs (startRunBody lines r s).trigger.conditions := by
  have hseen : TableKept cs (seeLines lines s).trigger.conditions := h
  have hprepared := tableKept_prepareRun hseen
  unfold startRunBody enterRun
  dsimp only
  (repeat' split) <;> simp [h, hprepared]

@[simp] theorem tableKept_resetCompletes (h : TableKept cs s.trigger.conditions) :
    TableKept cs (resetCompletes s).trigger.conditions := by
  unfold resetCompletes
  split
  · split
    · refine h.map fun c hc => ?_
      obtain ⟨hunknown, hrole⟩ := conditionInv_unknown hc
      obtain ⟨hunfired, hrole'⟩ := conditionInv_unfired hunknown
      exact ⟨hunfired, hrole'.trans hrole⟩
    · exact h
  all_goals exact h

@[simp] theorem tableKept_frameWhileAligning (p : Port) (good : Bool) (h : TableKept cs s.trigger.conditions) :
    TableKept cs (frameWhileAligning p good s).trigger.conditions := by
  unfold frameWhileAligning goodReception badReception
  (repeat' split) <;> simp [h]

end

/-! ## The sizes of the tables (R1, R48) -/

section
variable {s : State}

theorem TablesInv.of_eq {t : State} (h : TablesInv s) (hprogram : t.sweeper.program.length = s.sweeper.program.length)
    (hconditions : t.trigger.conditions.length = s.trigger.conditions.length) : TablesInv t :=
  ⟨hprogram.trans h.program, hconditions.trans h.conditions⟩

/-- The execution of the front request keeps the sizes of the tables when its body does. -/
theorem tablesInv_executeFront {kind : Byte} {body : Request → State → State} (h : TablesInv s)
    (hbody : ∀ r u, (body r u).sweeper.program.length = u.sweeper.program.length ∧
      (body r u).trigger.conditions.length = u.trigger.conditions.length) : TablesInv (executeFront kind body s) :=
  executeFront_of h fun r _ => h.of_eq (by simp [hbody]) (by simp [hbody])

theorem writeProgramEntryBody_length (r : Request) (s : State) :
    (writeProgramEntryBody r s).sweeper.program.length = s.sweeper.program.length := by
  unfold writeProgramEntryBody
  (repeat' split) <;> simp

theorem writeConditionBody_length (r : Request) (s : State) :
    (writeConditionBody r s).trigger.conditions.length = s.trigger.conditions.length := by
  unfold writeConditionBody
  (repeat' split) <;> simp

theorem resetCompletes_program (s : State) : (resetCompletes s).sweeper.program = s.sweeper.program := by
  unfold resetCompletes
  (repeat' split) <;> rfl

/-- A table that comes of another by an event has its size. -/
theorem tablesInv_of_kept {t : State} (h : TablesInv s) (hprogram : t.sweeper.program = s.sweeper.program)
    (hkept : TableKept s.trigger.conditions t.trigger.conditions) : TablesInv t :=
  h.of_eq (by rw [hprogram]) hkept.1

theorem tablesInv_effect (c : Instr) (h : TablesInv s) : TablesInv (effect c s) := by
  have hrefl := TableKept.refl s.trigger.conditions
  cases c with
  | writeProgramEntry => exact tablesInv_executeFront h fun r u => ⟨writeProgramEntryBody_length r u, by simp⟩
  | writeCondition => exact tablesInv_executeFront h fun r u => ⟨by simp, writeConditionBody_length r u⟩
  | startRun lines =>
    exact tablesInv_executeFront h fun r u => ⟨by simp, (tableKept_startRunBody lines r (.refl _)).1⟩
  | echo | readStatus | setParameter | getParameter | readProgramEntry | stopRun | readCondition
  | forceTrigger | arm | disarm | clearHalt | openWindow | closeWindow | discardRecord | readCounters | resetEngine =>
    exact tablesInv_executeFront h fun r u => by simp
  | hardReset straps level =>
    exact (inv_afterReset (nodeOfStraps straps) level).tables.of_eq rfl rfl
  | sampleReceived | badFrame | malformedIdleGroup | lossOfSignal | pacerExpiry | sweepStartEdge | requestTimeout =>
    exact tablesInv_of_kept h (by simp [effect]) (by simp [effect, badReception, hrefl])
  | resetEffects => exact tablesInv_of_kept h (resetCompletes_program s) (by simp [effect, hrefl])
  | _ => exact tablesInv_of_kept h (by simp [effect]) (by simp [effect, goodReception, hrefl])

theorem tablesInv_step : ∀ s t : State, TablesInv s → step s = .next t → TablesInv t :=
  step_keeps (P := TablesInv) (fun _ _ h => h.of_eq rfl rfl) (fun c _ => tablesInv_effect c)
    (fun _ h => h.of_eq (by simp) (by simp)) (fun _ h => h.of_eq (by simp) (by simp))

end

end Sys2Proof.Machine
end

section
/-! PROOFS. Every step keeps the conditions, the stage, the forced flag, the pulse timer and TRIGOUT in agreement with each
other and with capture (03): O9. -/

namespace Sys2Proof.Machine

/-! ## What the invariant speaks of -/

/-- The stage's part of the invariant (R56, R59). -/
structure StageInv (k : TriggerUnit) (armed : Bool) : Prop where
  stage : armed = true → (k.stage = .openStage ↔ ∀ c ∈ k.conditions, c.role ≠ .qualify)
  window : ∀ w, k.stage = .qualified w → 1 ≤ w ∧ w ≤ 255

/-- TRIGOUT's part of the invariant (R67, R68). -/
structure TrigoutInv (mode : TrigoutMode) (k : TriggerUnit) (post : Prop) : Prop where
  off : mode = .off → k.trigout = false
  level : mode = .level → (k.trigout = true ↔ post)
  pulse : mode = .pulse → k.trigout = k.pulse.isSome
  pulseTime : ∀ n, k.pulse = some n → n ≤ 10 ∧ mode = .pulse

/-- The invariant of the Trigger Unit with what it leans on: a record is open exactly in POST, and the qualify window in
force is in its range. -/
structure TriggerOk (s : State) : Prop where
  conditions : ∀ c ∈ s.trigger.conditions, ConditionInv c
  stage : StageInv s.trigger s.capture.state.armed
  forced : s.trigger.forced = true → s.capture.state.armed = true
  trigout : TrigoutInv s.params.trigoutMode s.trigger (s.capture.state = .post)
  post : s.capture.state = .post ↔ s.capture.openRecord.isSome
  window : 1 ≤ s.params.qualifyWindow ∧ s.params.qualifyWindow ≤ 255

theorem TriggerOk.inv {s : State} (h : TriggerOk s) : TriggerInv s := by
  obtain ⟨hconditions, ⟨hstage, hwindow⟩, hforced, ⟨hoff, hlevel, hpulse, htime⟩, -, -⟩ := h
  exact ⟨hconditions, hstage, hwindow, hforced, hoff, hlevel, hpulse, htime⟩

theorem TriggerInv.ok {s : State} (h : TriggerInv s) (hc : CaptureInv s) (hp : ParamsInv s) : TriggerOk s := by
  obtain ⟨hconditions, hstage, hwindow, hforced, hoff, hlevel, hpulse, htime⟩ := h
  exact ⟨hconditions, ⟨hstage, hwindow⟩, hforced, ⟨hoff, hlevel, hpulse, htime⟩, hc.post, hp.qualifyWindow⟩

theorem TriggerOk.of_eq {s t : State} (h : TriggerOk s) (htrigger : t.trigger = s.trigger)
    (hstate : t.capture.state = s.capture.state) (hrecord : t.capture.openRecord = s.capture.openRecord)
    (hparams : t.params = s.params) : TriggerOk t := by
  obtain ⟨h1, h2, h3, h4, h5, h6⟩ := h
  rw [← htrigger] at h1 h2 h3 h4
  rw [← hstate] at h2 h3 h4 h5
  rw [← hparams] at h4 h6
  rw [← hrecord] at h5
  exact ⟨h1, h2, h3, h4, h5, h6⟩

/-- Capture that was armed stays armed, or capture stays in its state; TRIGOUT and the stage are untouched. -/
theorem TriggerOk.of_armed {s t : State} (h : TriggerOk s) (hconditions : t.trigger.conditions = s.trigger.conditions)
    (hstage : StageInv t.trigger true) (htrigout : t.trigger.trigout = s.trigger.trigout)
    (hpulse : t.trigger.pulse = s.trigger.pulse) (harmed : s.capture.state.armed = true)
    (harmed' : t.capture.state.armed = true) (hrecord : t.capture.openRecord = s.capture.openRecord)
    (hparams : t.params = s.params) : TriggerOk t := by
  have not_post {u : State} (hu : u.capture.state.armed = true) : u.capture.state ≠ .post := fun hp => by
    simp [hp, CaptureState.armed] at hu
  obtain ⟨h1, -, -, ⟨hoff, hlevel, hp, htime⟩, h5, h6⟩ := h
  refine ⟨hconditions ▸ h1, harmed' ▸ hstage, fun _ => harmed', ⟨?_, ?_, ?_, ?_⟩, ?_, hparams ▸ h6⟩
  · rw [htrigout, hparams]
    exact hoff
  · intro hm
    rw [htrigout, hlevel (hparams ▸ hm)]
    exact iff_of_false (not_post harmed) (not_post harmed')
  · rw [htrigout, hpulse, hparams]
    exact hp
  · rw [hpulse, hparams]
    exact htime
  · rw [hrecord, ← h5]
    exact iff_of_false (not_post harmed') (not_post harmed)

theorem armed_iff_not {x : CaptureState} : x.armed = false ↔ x = .idle ∨ x = .post ∨ x = .halted := by
  cases x <;> simp [CaptureState.armed]

theorem armedState_armed (s : State) : (armedState s).armed = true := by
  unfold armedState
  split <;> rfl

theorem ne_post_of_armed {x : CaptureState} (h : x.armed = true) : x ≠ .post := fun hp => by
  simp [hp, CaptureState.armed] at h

/-! ## The table, the stage and TRIGOUT -/

section
variable {s : State}

/-- An event that shows the conditions something leaves the agreement. -/
theorem TriggerOk.of_kept {t : State} (h : TriggerOk s) (hkept : TableKept s.trigger.conditions t.trigger.conditions)
    (hstage : t.trigger.stage = s.trigger.stage) (hforced : t.trigger.forced = s.trigger.forced)
    (htrigout : t.trigger.trigout = s.trigger.trigout) (hpulse : t.trigger.pulse = s.trigger.pulse)
    (hcapture : t.capture = s.capture) (hparams : t.params = s.params) : TriggerOk t := by
  obtain ⟨h1, ⟨h2, h2'⟩, h3, ⟨hoff, hlevel, hp, htime⟩, h5, h6⟩ := h
  obtain ⟨hinv, hroles⟩ := hkept.2 h1
  rw [← hcapture, ← hstage, ← hroles] at h2
  rw [← hstage] at h2'
  rw [← hcapture, ← hforced] at h3
  rw [← hparams, ← htrigout] at hoff
  rw [← hparams, ← htrigout, ← hcapture] at hlevel
  rw [← hparams, ← htrigout, ← hpulse] at hp
  rw [← hparams, ← hpulse] at htime
  exact ⟨hinv, ⟨h2, h2'⟩, h3, ⟨hoff, hlevel, hp, htime⟩, hcapture ▸ h5, hparams ▸ h6⟩

theorem stageInv_fresh (k : TriggerUnit) (armed : Bool) : StageInv { k with stage := freshStage k.conditions } armed :=
  ⟨fun _ => freshStage_eq_open _, fun w hw => absurd hw (freshStage_ne_qualified _ w)⟩

/-- A verdict that is not taken moves the stage as R59 tells; only a condition with role QUALIFY gives a QUALIFY verdict. -/
theorem stageInv_stageByVerdict {v : Verdict} (h : StageInv s.trigger true)
    (hw : 1 ≤ s.params.qualifyWindow ∧ s.params.qualifyWindow ≤ 255)
    (hv : v = .qualify → ∃ c ∈ s.trigger.conditions, c.role = .qualify) : StageInv (stageByVerdict v s).trigger true := by
  obtain ⟨hstage, hwindow⟩ := h
  have hstage := hstage rfl
  cases v with
  | trigger cause => exact ⟨fun _ => hstage, hwindow⟩
  | qualify =>
    obtain ⟨c, hc, hrole⟩ := hv rfl
    refine ⟨fun _ => iff_of_false (by simp [stageByVerdict, stageAfter]) fun hno => hno c hc hrole, fun w hq => ?_⟩
    simp only [stageByVerdict, stageAfter, Stage.qualified.injEq] at hq
    exact hq ▸ hw
  | none =>
    cases hst : s.trigger.stage with
    | openStage =>
      refine ⟨fun _ => ?_, fun w hq => ?_⟩
      · rw [hst] at hstage
        simpa [stageByVerdict, stageAfter, hst] using hstage
      · simp [stageByVerdict, stageAfter, hst] at hq
    | awaitQualifier =>
      refine ⟨fun _ => ?_, fun w hq => ?_⟩
      · rw [hst] at hstage
        simpa [stageByVerdict, stageAfter, hst] using hstage
      · simp [stageByVerdict, stageAfter, hst] at hq
    | qualified n =>
      have hn := hwindow n hst
      have hafter : (stageByVerdict .none s).trigger.stage = if 0 < n - 1 then .qualified (n - 1) else .awaitQualifier := by
        simp [stageByVerdict, stageAfter, hst]
      refine ⟨fun _ => ?_, fun w hq => ?_⟩
      · rw [hst] at hstage
        refine iff_of_false ?_ fun hno => absurd (hstage.mpr hno) (by simp)
        rw [hafter]
        split <;> simp
      · rw [hafter] at hq
        split at hq
        · simp only [Stage.qualified.injEq] at hq
          omega
        · simp at hq

/-- TRIGOUT as capture takes a trigger: high, and in PULSE with the pulse timer loaded (R67). -/
theorem trigoutInv_trigoutTaken {post : Prop} (h : TrigoutInv s.params.trigoutMode s.trigger post) :
    TrigoutInv s.params.trigoutMode (trigoutTaken s).trigger True := by
  obtain ⟨hoff, hlevel, hpulse, htime⟩ := h
  unfold trigoutTaken
  cases hm : s.params.trigoutMode with
  | off => exact ⟨fun _ => hoff hm, by simp, by simp, fun n hn => by simpa [hm] using (htime n hn).2⟩
  | pulse => exact ⟨by simp, by simp, by simp, fun n hn => by simp at hn; subst hn; decide⟩
  | level => exact ⟨by simp, by simp, by simp, fun n hn => by simpa [hm] using (htime n hn).2⟩

/-- TRIGOUT as capture leaves POST: low in LEVEL (R67). -/
theorem trigoutInv_trigoutPostLeft {post : Prop} (h : TrigoutInv s.params.trigoutMode s.trigger post) :
    TrigoutInv s.params.trigoutMode (trigoutPostLeft s).trigger False := by
  obtain ⟨hoff, hlevel, hpulse, htime⟩ := h
  unfold trigoutPostLeft
  cases hm : s.params.trigoutMode with
  | off => exact ⟨fun _ => hoff hm, by simp, by simp, fun n hn => by simpa [hm] using (htime n hn).2⟩
  | pulse => exact ⟨by simp, by simp, fun _ => hpulse hm, fun n hn => by simpa [hm] using htime n hn⟩
  | level => exact ⟨by simp, by simp, by simp, fun n hn => by simpa [hm] using (htime n hn).2⟩

/-- The line driven to a level with no pulse timer running agrees, when the mode and the level do (R68). -/
theorem trigoutInv_driveTrigout {mode : TrigoutMode} {level : Bool} {post : Prop} (hlow : mode ≠ .level → level = false)
    (hlevel : mode = .level → (level = true ↔ post)) : TrigoutInv mode (driveTrigout level s).trigger post :=
  ⟨fun hm => hlow (by simp [hm]), hlevel, fun hm => hlow (by simp [hm]), by simp [driveTrigout]⟩

theorem trigoutTaken_stage (s : State) : (trigoutTaken s).trigger.stage = s.trigger.stage := by
  unfold trigoutTaken
  split <;> rfl

/-! ## Capture leaves POST (R98, R100 to R106) -/

/-- The Trigger Unit when a record has closed and the next capture state is not yet set. -/
structure RecordLeft (s : State) : Prop where
  conditions : ∀ c ∈ s.trigger.conditions, ConditionInv c
  stage : StageInv s.trigger false
  forced : s.trigger.forced = false
  trigout : TrigoutInv s.params.trigoutMode s.trigger False
  noRecord : s.capture.openRecord = none
  window : 1 ≤ s.params.qualifyWindow ∧ s.params.qualifyWindow ≤ 255

theorem RecordLeft.of_eq {t : State} (h : RecordLeft s) (htrigger : t.trigger = s.trigger)
    (hrecord : t.capture.openRecord = s.capture.openRecord) (hparams : t.params = s.params) : RecordLeft t := by
  obtain ⟨h1, h2, h3, h4, h5, h6⟩ := h
  rw [← htrigger] at h1 h2 h3 h4
  rw [← hparams] at h4 h6
  rw [← hrecord] at h5
  exact ⟨h1, h2, h3, h4, h5, h6⟩

/-- Capture in IDLE or HALTED asks nothing of the Trigger Unit but that the flag is clear and the line low. -/
theorem RecordLeft.ok (h : RecordLeft s) (hstate : s.capture.state = .idle ∨ s.capture.state = .halted) : TriggerOk s := by
  obtain ⟨h1, ⟨-, h2⟩, h3, h4, h5, h6⟩ := h
  have hnot : s.capture.state ≠ .post := by rcases hstate with hs | hs <;> simp [hs]
  have harmed : s.capture.state.armed = false := by rcases hstate with hs | hs <;> simp [hs, CaptureState.armed]
  exact ⟨h1, ⟨by simp [harmed], h2⟩, by simp [h3], by simpa [hnot] using h4, iff_of_false hnot (by simp [h5]), h6⟩

theorem TriggerOk.recordLeft (h : TriggerOk s) (hstate : s.capture.state = .idle ∨ s.capture.state = .halted) :
    RecordLeft s := by
  have hnot : s.capture.state ≠ .post := by rcases hstate with hs | hs <;> simp [hs]
  have harmed : s.capture.state.armed = false := by rcases hstate with hs | hs <;> simp [hs, CaptureState.armed]
  obtain ⟨h1, ⟨-, h2⟩, h3, h4, h5, h6⟩ := h
  exact ⟨h1, ⟨by simp, h2⟩, by simpa [harmed] using h3, by simpa [hnot] using h4, by simpa [hnot] using h5, h6⟩

theorem recordLeft_closeRecord (truncated cut : Bool) (h : TriggerOk s) (hpost : s.capture.state = .post) :
    RecordLeft (closeRecord truncated cut s) := by
  obtain ⟨o, ho⟩ := Option.isSome_iff_exists.mp (h.post.mp hpost)
  obtain ⟨h1, ⟨-, h2⟩, h3, h4, -, h6⟩ := h
  rw [closeRecord_of_open truncated cut ho]
  dsimp only
  refine ⟨?_, ⟨by simp, ?_⟩, ?_, ?_, ?_, ?_⟩
  · simpa using h1
  · simpa using h2
  · simpa [hpost, CaptureState.armed] using h3
  · have hleft := trigoutInv_trigoutPostLeft (s := postNotice (.recordClosed o.id
      (o.close s.params.posttriggerSweeps truncated cut).header.total o.shortHead o.headLost truncated cut
        (if cut then s.capture.quota else s.capture.quota - 1))
      { s with
        delivery.queue := s.delivery.queue ++ [o.close s.params.posttriggerSweeps truncated cut]
        capture.openRecord := none
        capture.quota := if cut then s.capture.quota else s.capture.quota - 1 }) (by simpa using h4)
    simpa using hleft
  · simp
  · simpa using h6

theorem triggerOk_enterHalted (cause : HaltCause) (h : RecordLeft s) : TriggerOk (enterHalted cause s) :=
  RecordLeft.ok (h.of_eq (by simp) (by simp) (by simp)) (.inr (by simp [enterHalted]))

/-- Arming sets the stage afresh (R56, R90). -/
theorem triggerOk_armNow (h : RecordLeft s) : TriggerOk (armNow s) := by
  obtain ⟨h1, -, h3, h4, h5, h6⟩ := h
  have harmed : (armNow s).capture.state.armed = true := armedState_armed _
  have hnot := ne_post_of_armed harmed
  refine ⟨h1, stageInv_fresh s.trigger _, fun hf => absurd (show s.trigger.forced = true from hf) (by simp [h3]), ?_,
    iff_of_false hnot (by simp [h5]), h6⟩
  obtain ⟨hoff, hlevel, hpulse, htime⟩ := h4
  exact ⟨hoff, fun hm => (hlevel hm).trans (iff_of_false id hnot), hpulse, htime⟩

theorem triggerOk_quotaPath (h : RecordLeft s) : TriggerOk (quotaPath s) := by
  have rearmed {u : State} (hu : RecordLeft u) : TriggerOk (rearm u) := by
    unfold rearm
    split
    · exact triggerOk_enterHalted _ hu
    · split
      · exact triggerOk_enterHalted _ hu
      · exact triggerOk_armNow hu
  unfold quotaPath
  split
  · exact rearmed h
  · split
    · exact rearmed (h.of_eq rfl rfl rfl)
    · exact RecordLeft.ok (h.of_eq rfl rfl rfl) (.inl rfl)

theorem triggerOk_runEndReport (h : TriggerOk s) : TriggerOk (runEndReport s) := by
  by_cases hpost : s.capture.state = .post
  · rw [runEndReport_of_post hpost]
    exact triggerOk_quotaPath (recordLeft_closeRecord _ _ h hpost)
  · rw [runEndReport_of_not_post hpost]
    exact h

/-! ## The sweep completion (R11, R58 to R60, R92 to R97) -/

/-- A hand-over sets the stage afresh and TRIGOUT by its mode (R56, R67, R95). -/
theorem openRecord_trigger (cause : Cause) (number : Word) (s : State) :
    (openRecord cause number s).trigger =
      (trigoutTaken { s with trigger.stage := freshStage s.trigger.conditions }).trigger := by
  simp only [openRecord, trigoutTaken, setStageAfresh, postNotice_keeps]
  split <;> simp

theorem openRecord_state (cause : Cause) (number : Word) (s : State) :
    (openRecord cause number s).capture.state = .post ∧ (openRecord cause number s).capture.openRecord.isSome := by
  simp [openRecord]

theorem triggerOk_openRecord (cause : Cause) (number : Word) (h : TriggerOk s) (hforced : s.trigger.forced = false) :
    TriggerOk (openRecord cause number s) := by
  obtain ⟨h1, -, -, ⟨hoff, hlevel, hpulse, htime⟩, -, h6⟩ := h
  obtain ⟨hpost, hopen⟩ := openRecord_state cause number s
  have htrigout : TrigoutInv s.params.trigoutMode (trigoutTaken { s with
      trigger.stage := freshStage s.trigger.conditions }).trigger True :=
    trigoutInv_trigoutTaken (s := { s with trigger.stage := freshStage s.trigger.conditions })
      (post := s.capture.state = .post) ⟨hoff, hlevel, hpulse, htime⟩
  refine ⟨by simpa using h1, ⟨by simp [hpost, CaptureState.armed], fun w hw => ?_⟩, by simp [hforced], ?_,
    iff_of_true hpost hopen, by simpa using h6⟩
  · rw [openRecord_trigger, trigoutTaken_stage] at hw
    exact absurd hw (freshStage_ne_qualified _ w)
  · simpa [openRecord_trigger, hpost] using htrigout

/-- What capture does with a completed sweep while it is armed and takes no trigger: the state goes by the history. -/
theorem triggerOk_historyAppend {v : Verdict} (h : TriggerOk s) (harmed : s.capture.state.armed = true)
    (hv : v = .qualify → ∃ c ∈ s.trigger.conditions, c.role = .qualify) : TriggerOk (historyAppend (stageByVerdict v s)) := by
  refine h.of_armed (by simp) ?_ (by simp) (by simp) harmed ?_ (by simp) (by simp)
  · simpa using stageInv_stageByVerdict (harmed ▸ h.stage) h.window hv
  · unfold historyAppend
    exact armedState_armed _

theorem triggerOk_postAppend (h : TriggerOk s) (hpost : s.capture.state = .post) : TriggerOk (postAppend s) := by
  obtain ⟨o, ho⟩ := Option.isSome_iff_exists.mp (h.post.mp hpost)
  obtain ⟨h1, h2, h3, h4, h5, h6⟩ := h
  rw [postAppend_of_open ho]
  dsimp only
  have happended : TriggerOk { s with
      capture.openRecord := some { o with
        blocks := o.blocks ++ s.memory.current.toList
        postRemaining := o.postRemaining - 1 }
      memory.current := none } := ⟨h1, h2, h3, h4, iff_of_true hpost rfl, h6⟩
  split
  · exact triggerOk_quotaPath (recordLeft_closeRecord _ _ happended hpost)
  · exact happended

theorem triggerOk_receiveCompleted {v : Verdict} (number : Word) (h : TriggerOk s) (hforced : s.trigger.forced = false)
    (hv : v = .qualify → ∃ c ∈ s.trigger.conditions, c.role = .qualify) : TriggerOk (receiveCompleted v number s) := by
  have disarmed : TriggerOk (discardBlock s) := h.of_eq (by simp) (by simp) (by simp) (by simp)
  have appended (harmed : s.capture.state.armed = true) : TriggerOk (historyAppend (stageByVerdict v s)) :=
    triggerOk_historyAppend h harmed hv
  unfold receiveCompleted
  split
  · exact disarmed
  · exact disarmed
  · next hpost => exact triggerOk_postAppend h hpost
  · next hready =>
    split
    · exact triggerOk_openRecord _ _ h hforced
    all_goals exact appended (by simp [hready, CaptureState.armed])
  · next hfilling =>
    split
    · split
      · exact triggerOk_openRecord _ _ h hforced
      · exact appended (by simp [hfilling, CaptureState.armed])
    all_goals exact appended (by simp [hfilling, CaptureState.armed])

/-- After the verdict the forced flag is clear: it was not set, or it gave the verdict (R58, R60). -/
theorem triggerOk_judgeSweep (number : Word) (h : TriggerOk s) : TriggerOk (judgeSweep number s) := by
  have hverdict (hv : s.trigger.verdict = .qualify) : ∃ c ∈ s.trigger.conditions, c.role = .qualify :=
    verdict_qualify_role hv h.conditions
  rw [judgeSweep_eq]
  split
  · obtain ⟨h1, ⟨h2, h2'⟩, h3, ⟨hoff, hlevel, hpulse, htime⟩, h5, h6⟩ := h
    exact triggerOk_receiveCompleted number
      (s := { s with trigger.forced := false }) ⟨h1, ⟨h2, h2'⟩, by simp, ⟨hoff, hlevel, hpulse, htime⟩, h5, h6⟩ rfl hverdict
  · next hf => exact triggerOk_receiveCompleted number h (Bool.eq_false_iff.mpr hf) hverdict

theorem triggerOk_sweepCompletion (r : SweepRecord) (h : TriggerOk s) : TriggerOk (sweepCompletion r s) := by
  have hjudged : TriggerOk (judgeSweep r.number { s with sweeper.sweep := none }) :=
    triggerOk_judgeSweep _ (h.of_eq rfl rfl rfl rfl)
  have hrun : TriggerOk (runAfterCompletion (judgeSweep r.number { s with sweeper.sweep := none })) :=
    hjudged.of_eq (by simp) (by simp) (by simp) (by simp)
  unfold sweepCompletion
  dsimp only
  split
  · exact triggerOk_runEndReport hrun
  · exact hrun

theorem triggerOk_checkCompletion (h : TriggerOk s) : TriggerOk (checkCompletion s) := by
  unfold checkCompletion
  split
  · split
    · exact triggerOk_sweepCompletion _ h
    · exact h
  · exact h

/-! ## The requests of a sweep (R42 to R44) -/

theorem triggerOk_handSample (x : Sample) (h : TriggerOk s) : TriggerOk (handSample x s) :=
  h.of_kept (by simp [TableKept.refl]) (by simp) (by simp) (by simp) (by simp) (by simp) (by simp)

theorem triggerOk_completeRequest (e : InFlight) (content : Content) (x : TagState) (h : TriggerOk s) :
    TriggerOk (completeRequest e content x s) := by
  have hsample := triggerOk_handSample (e.sample content) h
  have hcheck := triggerOk_checkCompletion (s := setTag e.tag x (removeEntry e (handSample (e.sample content) s)))
    (hsample.of_eq (by simp) (by simp) (by simp) (by simp))
  exact hcheck.of_eq (by simp [completeRequest]) (by simp [completeRequest]) (by simp [completeRequest])
    (by simp [completeRequest])

theorem triggerOk_fillRest (h : TriggerOk s) : TriggerOk (fillRest s) := by
  refine triggerOk_checkCompletion ?_
  exact h.of_kept (by simp [TableKept.refl]) (by simp) (by simp) (by simp) (by simp) (by simp) (by simp)

theorem triggerOk_timedReply (f : SampleFrame) (e : InFlight) (h : TriggerOk s) : TriggerOk (timedReply f e s) := by
  unfold timedReply
  split
  · exact triggerOk_completeRequest _ _ _ h
  · exact triggerOk_completeRequest _ _ _ (h.of_eq rfl rfl rfl rfl)

theorem triggerOk_matchReply (f : SampleFrame) (h : TriggerOk s) : TriggerOk (matchReply f s) := by
  unfold matchReply
  split
  · exact h.of_eq (by simp [lateReply]) (by simp [lateReply]) (by simp [lateReply]) (by simp [lateReply])
  · split
    · split
      · exact triggerOk_timedReply _ _ h
      · exact h.of_eq rfl rfl rfl rfl
    · exact h.of_eq rfl rfl rfl rfl
  · exact h.of_eq rfl rfl rfl rfl
  · exact h.of_eq rfl rfl rfl rfl

theorem triggerOk_requestTimesOut (t : Nat) (h : TriggerOk s) : TriggerOk (requestTimesOut t s) := by
  unfold requestTimesOut
  split
  · split
    · exact triggerOk_completeRequest _ _ _ (h.of_eq rfl rfl rfl rfl)
    · exact h
  · exact h

/-! ## The sweep start (R10, R75 to R77) -/

theorem triggerOk_blockRequest (r : SweepRecord) (h : TriggerOk s) : TriggerOk (blockRequest r s) := by
  have armed (harmed : s.capture.state.armed = true) : TriggerOk (dropForSpace s) := by
    refine h.of_armed (by simp) (by simpa using harmed ▸ h.stage) (by simp) (by simp) harmed ?_ (by simp) (by simp)
    rw [dropForSpace_eq]
    dsimp only
    split
    · exact harmed
    · split <;> rfl
  have requested (harmed : s.capture.state.armed = true) :
      TriggerOk (if s.cost ≤ (dropForSpace s).memory.free then allocateBlock r (dropForSpace s)
        else countUnstored (dropForSpace s)) := by
    split
    · exact (armed harmed).of_eq rfl rfl rfl rfl
    · exact (armed harmed).of_eq rfl rfl rfl rfl
  unfold blockRequest
  split
  · exact h
  · exact h
  · next hs => exact requested (by simp [hs, CaptureState.armed])
  · next hs => exact requested (by simp [hs, CaptureState.armed])
  · next hpost =>
    split
    · exact h.of_eq rfl rfl rfl rfl
    · exact triggerOk_enterHalted _ (recordLeft_closeRecord _ _ (h.of_eq rfl rfl rfl rfl) hpost)

theorem triggerOk_sweepStart (h : TriggerOk s) : TriggerOk (sweepStart s) := by
  have hmarked : TriggerOk (markStarted s) := h.of_eq rfl rfl rfl rfl
  have hblock := triggerOk_blockRequest s.startingSweep hmarked
  have hsampled : TriggerOk (triggerSweepStart (blockRequest s.startingSweep (markStarted s))) :=
    hblock.of_kept (tableKept_triggerSweepStart (.refl _)) rfl rfl rfl rfl rfl rfl
  have hlimited : TriggerOk (applyLimit (triggerSweepStart (blockRequest s.startingSweep (markStarted s)))) :=
    hsampled.of_eq (by simp) (by simp) (by simp) (by simp)
  unfold sweepStart beginIssuing
  dsimp only
  split
  · exact hlimited.of_eq (by simp) (by simp) (by simp) (by simp)
  · exact triggerOk_fillRest (hlimited.of_eq rfl rfl rfl rfl)

theorem triggerOk_pacerExpires (h : TriggerOk s) : TriggerOk (pacerExpires s) := by
  have event {u : State} (hu : TriggerOk u) : TriggerOk (pacerEvent u) := by
    unfold pacerEvent
    split
    · exact hu.of_eq rfl rfl rfl rfl
    · exact triggerOk_sweepStart hu
  unfold pacerExpires
  split
  · exact event (h.of_eq rfl rfl rfl rfl)
  · exact event (h.of_eq rfl rfl rfl rfl)
  all_goals exact h

theorem triggerOk_startLineLevel (level : Bool) (h : TriggerOk s) : TriggerOk (startLineLevel level s) := by
  unfold startLineLevel startEdgeSeen
  dsimp only
  (repeat' split)
  · exact h
  · exact triggerOk_sweepStart (h.of_eq rfl rfl rfl rfl)
  all_goals exact h.of_eq rfl rfl rfl rfl

/-! ## The links (R174) -/

theorem triggerOk_setLink (p : Port) (l : Link) (h : TriggerOk s) : TriggerOk (setLink p l s) := by
  cases p with
  | delivery => exact h.of_eq (by simp [setLink]) (by simp [setLink]) (by simp [setLink]) (by simp [setLink])
  | intake =>
    rw [setLink]
    by_cases hdrop : s.intake.link.state = .up ∧ l.state = .down
    · rw [setIntakeLink_of_drop hdrop.1 hdrop.2]
      have hwithdrawn (u : State) (hu : TriggerOk u) : TriggerOk (withdrawConverts u) :=
        hu.of_kept (tableKept_withdrawConverts (.refl _)) (by simp) (by simp) (by simp) (by simp) (by simp) (by simp)
      have hended : TriggerOk (upFrameEnded { s with intake.link := l }) :=
        h.of_eq (by simp) (by simp) (by simp) (by simp)
      have hfilled := triggerOk_fillRest (hwithdrawn { upFrameEnded { s with intake.link := l } with
        counters.forwardDrops := satAdd (upFrameEnded { s with intake.link := l }).counters.forwardDrops
          (upFrameEnded { s with intake.link := l }).intake.forward.length
        intake.forward := []
        intake.turn := 0 } (hended.of_eq rfl rfl rfl rfl))
      exact hfilled.of_eq (postNotice_keeps _ _).2.2.1 (by simp [intakeDropped]) (by simp [intakeDropped])
        (by simp [intakeDropped])
    · rw [setIntakeLink_of_no_drop hdrop]
      split
      · exact h.of_eq (by simp) (by simp) (by simp) (by simp)
      · exact h.of_eq rfl rfl rfl rfl

theorem triggerOk_receiveBadFrame (p : Port) (h : TriggerOk s) : TriggerOk (receiveBadFrame p s) := by
  rw [receiveBadFrame_eq]
  split
  · exact triggerOk_setLink _ _ (h.of_eq (by simp) (by simp) (by simp) (by simp))
  · exact triggerOk_setLink _ _ h

theorem triggerOk_receiveSample (f : SampleFrame) (h : TriggerOk s) : TriggerOk (receiveSample f s) := by
  have hlink := triggerOk_setLink .intake (s.link .intake).good h
  exact receiveGoodFrame_of hlink fun _ => triggerOk_matchReply f hlink

theorem triggerOk_receiveIntakeFrame (f : RawFrame) (h : TriggerOk s) : TriggerOk (receiveIntakeFrame f s) := by
  have hlink := triggerOk_setLink .intake (s.link .intake).good h
  unfold receiveIntakeFrame
  split
  · split
    · split
      · exact triggerOk_receiveSample _ h
      · exact triggerOk_receiveBadFrame _ h
    · exact receiveGoodFrame_of hlink fun _ => hlink.of_eq (by simp) (by simp) (by simp) (by simp)
  · exact triggerOk_receiveBadFrame _ h

theorem triggerOk_receiveRequest (r : Request) (h : TriggerOk s) : TriggerOk (receiveRequest r s) := by
  have hlink := triggerOk_setLink .delivery (s.link .delivery).good h
  unfold receiveRequest
  split
  · exact receiveGoodFrame_of hlink fun _ => hlink.of_eq (by simp) (by simp) (by simp) (by simp)
  · exact triggerOk_receiveBadFrame _ h

theorem triggerOk_frameWhileAligning (p : Port) (good : Bool) (h : TriggerOk s) :
    TriggerOk (frameWhileAligning p good s) := by
  unfold frameWhileAligning goodReception badReception
  (repeat' split)
  · exact triggerOk_setLink _ _ h
  · exact triggerOk_setLink _ _ h
  · exact h

/-! ## The requests -/

/-- START_RUN while armed sets the stage afresh from conditions that keep their roles (R9, R66). -/
theorem triggerOk_prepareRun (h : TriggerOk s) : TriggerOk (prepareRun s) := by
  have hkept : TableKept s.trigger.conditions (prepareRun s).trigger.conditions := tableKept_prepareRun (.refl _)
  have hmapped : TriggerOk { s with trigger.conditions := (prepareRun s).trigger.conditions } :=
    h.of_kept hkept rfl rfl rfl rfl rfl rfl
  by_cases harmed : s.capture.state = .filling ∨ s.capture.state = .ready
  · refine hmapped.of_armed rfl ⟨fun _ => ?_, fun w hw => ?_⟩ ?_ ?_ (CaptureState.armed_iff.mpr harmed) ?_ ?_ ?_
    · rw [(hkept.2 h.conditions).2, ← freshStage_eq_open, prepareRun_eq]
      simp [if_pos harmed]
    · rw [prepareRun_eq] at hw
      simp only [if_pos harmed] at hw
      exact absurd hw (freshStage_ne_qualified _ w)
    all_goals
      rw [prepareRun_eq]
    · simp only [if_pos harmed]
      split <;> rfl
  · refine hmapped.of_eq ?_ ?_ ?_ ?_ <;> simp [prepareRun_eq, if_neg harmed]

theorem triggerOk_startRunBody (lines : Lines) (r : Request) (h : TriggerOk s) : TriggerOk (startRunBody lines r s) := by
  have hprepared : TriggerOk (prepareRun (seeLines lines s)) := triggerOk_prepareRun (h.of_eq rfl rfl rfl rfl)
  have hentered : TriggerOk (enterRun (prepareRun (seeLines lines s))) := by
    unfold enterRun
    split
    · exact triggerOk_sweepStart (hprepared.of_eq rfl rfl rfl rfl)
    · exact hprepared.of_eq rfl rfl rfl rfl
  unfold startRunBody
  split
  · split
    · exact h.of_eq rfl rfl rfl rfl
    · split
      · exact h.of_eq rfl rfl rfl rfl
      · exact hentered.of_eq rfl rfl rfl rfl
  · exact h.of_eq rfl rfl rfl rfl

theorem triggerOk_stopRunBody (r : Request) (h : TriggerOk s) : TriggerOk (stopRunBody r s) := by
  have hended : TriggerOk (runEndReport (endRun .stopRequest s)) :=
    triggerOk_runEndReport (h.of_eq (by simp) (by simp) (by simp) (by simp))
  have deferred (stop : State → State) (hstop : TriggerOk (stop s)) : TriggerOk (deferStop r stop s) := by
    unfold deferStop
    split
    · exact hstop.of_eq rfl rfl rfl rfl
    all_goals exact h.of_eq rfl rfl rfl rfl
  have hstopping : TriggerOk (beginStopping .stopRequest s) := h.of_eq rfl rfl rfl rfl
  unfold stopRunBody
  (repeat' split)
  · exact h.of_eq rfl rfl rfl rfl
  · exact hended.of_eq rfl rfl rfl rfl
  · exact deferred _ hstopping
  · exact hended.of_eq rfl rfl rfl rfl
  · exact deferred _ hstopping
  · exact hended.of_eq rfl rfl rfl rfl
  · exact deferred _ h
  · exact h.of_eq rfl rfl rfl rfl

/-- A condition that WRITE_CONDITION takes agrees with itself (R64). -/
theorem GivesCondition.inv {L : Nat} {role source test threshold low high hysteresis count : Word} {c : Condition}
    (h : GivesCondition L role source test threshold low high hysteresis count c) : ConditionInv c := by
  obtain ⟨-, hsource, -, -, -, -, hhysteresis, hcount, hkind, -, hband, hready, hrun, hfired⟩ := h
  obtain ⟨hcount, hcountEq⟩ := argIn_eq_some.mp hcount
  obtain ⟨hhysteresis, hhysteresisEq⟩ := argIn_eq_some.mp hhysteresis
  exact ⟨by omega, by omega, hband, hkind, (argSource_eq_some.mp hsource).2, by omega, fun _ => hrun, by simp [hfired]⟩

theorem triggerOk_writeConditionBody (r : Request) (h : TriggerOk s) : TriggerOk (writeConditionBody r s) := by
  unfold writeConditionBody
  split
  · split
    · next hw =>
      split
      · next n c hn hc =>
        have harmed : s.capture.state.armed = false := by
          cases hs : s.capture.state <;> simp [hs, CaptureState.conditionsWritable, CaptureState.armed] at hw ⊢
        obtain ⟨h1, ⟨-, h2⟩, h3, ⟨hoff, hlevel, hpulse, htime⟩, h5, h6⟩ := h
        refine ⟨fun x hx => ?_, ⟨by simp [harmed], h2⟩, h3, ⟨hoff, hlevel, hpulse, htime⟩, h5, h6⟩
        rcases List.mem_or_eq_of_mem_set hx with hx | rfl
        · exact h1 x hx
        · exact (argCondition_eq_some.mp hc).inv
      · exact h.of_eq rfl rfl rfl rfl
    · exact h.of_eq rfl rfl rfl rfl
  · exact h.of_eq rfl rfl rfl rfl

theorem triggerOk_forceTriggerBody (r : Request) (h : TriggerOk s) : TriggerOk (forceTriggerBody r s) := by
  unfold forceTriggerBody
  split
  · split
    · next harmed =>
      obtain ⟨h1, ⟨h2, h2'⟩, -, ⟨hoff, hlevel, hpulse, htime⟩, h5, h6⟩ := h
      exact ⟨h1, ⟨h2, h2'⟩, fun _ => harmed, ⟨hoff, hlevel, hpulse, htime⟩, h5, h6⟩
    · exact h.of_eq rfl rfl rfl rfl
  · exact h.of_eq rfl rfl rfl rfl

theorem triggerOk_armBody (r : Request) (h : TriggerOk s) : TriggerOk (armBody r s) := by
  unfold armBody
  split
  · split
    · exact h.of_eq rfl rfl rfl rfl
    · next hidle =>
      have hleft := h.recordLeft (.inl (not_not.mp hidle))
      have harmed : TriggerOk (armEffects s) := triggerOk_armNow (hleft.of_eq rfl rfl rfl)
      (repeat' split)
      · exact h.of_eq rfl rfl rfl rfl
      · exact h.of_eq rfl rfl rfl rfl
      · exact h.of_eq rfl rfl rfl rfl
      · exact harmed.of_eq rfl rfl rfl rfl
  · exact h.of_eq rfl rfl rfl rfl

theorem triggerOk_disarmEffects (h : TriggerOk s) : TriggerOk (disarmEffects s) := by
  by_cases hpost : s.capture.state = .post
  · rw [disarmEffects_of_post hpost]
    obtain ⟨h1, ⟨-, h2⟩, -, ⟨hoff, hlevel, hpulse, htime⟩, h5, h6⟩ := recordLeft_closeRecord false true h hpost
    exact RecordLeft.ok ⟨h1, ⟨by simp, h2⟩, rfl, ⟨hoff, hlevel, hpulse, htime⟩, h5, h6⟩ (.inl rfl)
  · by_cases harmed : s.capture.state = .filling ∨ s.capture.state = .ready
    · rw [disarmEffects_of_armed harmed]
      obtain ⟨h1, ⟨-, h2⟩, -, ⟨hoff, hlevel, hpulse, htime⟩, h5, h6⟩ := h
      refine RecordLeft.ok ⟨h1, ⟨by simp, h2⟩, rfl, ⟨hoff, fun hm => ?_, hpulse, htime⟩, ?_, h6⟩ (.inl rfl)
      · exact (hlevel hm).trans (iff_of_false hpost id)
      · simpa [hpost] using h5
    · have hsame : disarmEffects s = s := by
        unfold disarmEffects
        cases hs : s.capture.state <;> simp_all
      rw [hsame]
      exact h

theorem triggerOk_disarmBody (r : Request) (h : TriggerOk s) : TriggerOk (disarmBody r s) := by
  unfold disarmBody
  split
  · split
    · exact h.of_eq rfl rfl rfl rfl
    · exact (triggerOk_disarmEffects h).of_eq rfl rfl rfl rfl
  · exact h.of_eq rfl rfl rfl rfl

theorem triggerOk_clearHaltBody (r : Request) (h : TriggerOk s) : TriggerOk (clearHaltBody r s) := by
  unfold clearHaltBody
  split
  · split
    · next hhalted =>
      have hleft := h.recordLeft (.inr hhalted.1)
      exact RecordLeft.ok (hleft.of_eq rfl rfl rfl) (.inl rfl)
    · exact h.of_eq rfl rfl rfl rfl
  · exact h.of_eq rfl rfl rfl rfl

/-- A write of TRIGOUT_MODE sets the line to what the new mode wants (R68). -/
theorem triggerOk_putParams (p : Param) {v : Word} {ps : Params} (hp : ParamsInv s) (hset : s.params.set p v = some ps)
    (h : TriggerOk s) : TriggerOk (putParams p ps s) := by
  have hwindow : 1 ≤ ps.qualifyWindow ∧ ps.qualifyWindow ≤ 255 := (hp.set hset).qualifyWindow
  obtain ⟨-, -, hother⟩ := Params.set_eq_some hset
  obtain ⟨h1, ⟨h2, h2'⟩, h3, htrigout, h5, h6⟩ := h
  by_cases hmode : p = .trigoutMode
  · subst hmode
    have written : TrigoutInv ps.trigoutMode (trigoutModeWritten s.params.trigoutMode { s with params := ps }).trigger
        (s.capture.state = .post) := by
      unfold trigoutModeWritten
      cases hm : ps.trigoutMode with
      | off => exact trigoutInv_driveTrigout (fun _ => rfl) (by simp)
      | level => exact trigoutInv_driveTrigout (by simp) (by simp)
      | pulse =>
        dsimp only
        split
        · next hold => exact hold ▸ htrigout
        · exact trigoutInv_driveTrigout (fun _ => rfl) (by simp)
    refine ⟨by simpa using h1, ⟨by simpa using h2, by simpa using h2'⟩, by simpa using h3, ?_, by simpa using h5, ?_⟩
    · simpa [putParams_params, putParams] using written
    · simpa [putParams_params] using hwindow
  · have hsame : ps.trigoutMode = s.params.trigoutMode := by
      have hget := hother .trigoutMode (Ne.symm hmode)
      simp only [Params.get] at hget
      cases hm : ps.trigoutMode <;> cases hm' : s.params.trigoutMode <;> simp [hm, hm', TrigoutMode.code] at hget ⊢
    rw [putParams_of_ne ps hmode]
    exact ⟨h1, ⟨h2, h2'⟩, h3, by simpa [hsame] using htrigout, h5, hwindow⟩

theorem triggerOk_setParameterBody (r : Request) (hp : ParamsInv s) (h : TriggerOk s) :
    TriggerOk (setParameterBody r s) := by
  unfold setParameterBody
  split
  · split
    · exact h.of_eq rfl rfl rfl rfl
    · split
      · split
        · exact h.of_eq rfl rfl rfl rfl
        · next hset => exact (triggerOk_putParams _ hp hset h).of_eq rfl rfl rfl rfl
      · exact h.of_eq rfl rfl rfl rfl
  · exact h.of_eq rfl rfl rfl rfl

/-! ## The pulse timer, the clock and the resets (R67, R69) -/

theorem triggerOk_pulseExpires (h : TriggerOk s) : TriggerOk (pulseExpires s) := by
  unfold pulseExpires
  split
  · next n hn =>
    obtain ⟨h1, ⟨h2, h2'⟩, h3, ⟨-, -, -, htime⟩, h5, h6⟩ := h
    have hmode := (htime n hn).2
    exact ⟨h1, ⟨h2, h2'⟩, h3, trigoutInv_driveTrigout (fun _ => rfl) (by simp [hmode]), h5, h6⟩
  · exact h

theorem triggerOk_tick (h : TriggerOk s) : TriggerOk (tick s) := by
  obtain ⟨h1, ⟨h2, h2'⟩, h3, ⟨hoff, hlevel, hpulse, htime⟩, h5, h6⟩ := h
  refine ⟨h1, ⟨h2, h2'⟩, h3, ⟨hoff, hlevel, by simpa [tick] using hpulse, fun n hn => ?_⟩, h5, h6⟩
  obtain ⟨m, hm, rfl⟩ := Option.map_eq_some_iff.mp hn
  obtain ⟨hle, hmode⟩ := htime m hm
  exact ⟨by omega, hmode⟩

theorem triggerOk_idle (h : TriggerOk s) : TriggerOk (idle s) := by
  unfold idle
  split
  · exact h.of_eq rfl rfl rfl rfl
  · split
    · unfold clockCycle
      dsimp only
      split
      · exact h.of_eq rfl rfl rfl rfl
      · exact triggerOk_tick (h.of_eq rfl rfl rfl rfl)
    · exact h.of_eq rfl rfl rfl rfl

theorem triggerOk_resetCompletes (h : TriggerOk s) : TriggerOk (resetCompletes s) := by
  unfold resetCompletes
  split
  · split
    · have hkept : TableKept s.trigger.conditions s.trigger.resetEngine.conditions := by
        refine TableKept.map (.refl _) fun c hc => ?_
        obtain ⟨hunknown, hrole⟩ := conditionInv_unknown hc
        obtain ⟨hunfired, hrole'⟩ := conditionInv_unfired hunknown
        exact ⟨hunfired, hrole'.trans hrole⟩
      refine RecordLeft.ok ⟨(hkept.2 h.conditions).1, ⟨by simp, fun w hw => ?_⟩, rfl, ?_, rfl, h.window⟩ (.inl rfl)
      · exact absurd hw (freshStage_ne_qualified _ w)
      · constructor <;> simp [respond, resetBlocks, TriggerUnit.resetEngine]
    · exact h
  all_goals exact h

/-! ## Every command -/

theorem triggerOk_effect (c : Instr) (hp : ParamsInv s) (h : TriggerOk s) : TriggerOk (effect c s) := by
  have hpop : TriggerOk (popRequest s) := h.of_eq (by simp) (by simp) (by simp) (by simp)
  have seen (lines : Lines) : TriggerOk (seeLines lines s) := h.of_eq rfl rfl rfl rfl
  cases c with
  | setParameter => exact executeFront_of h fun r _ => triggerOk_setParameterBody r (hp.of_params (by simp)) hpop
  | startRun lines => exact executeFront_of h fun r _ => triggerOk_startRunBody lines r hpop
  | stopRun => exact executeFront_of h fun r _ => triggerOk_stopRunBody r hpop
  | writeCondition => exact executeFront_of h fun r _ => triggerOk_writeConditionBody r hpop
  | forceTrigger => exact executeFront_of h fun r _ => triggerOk_forceTriggerBody r hpop
  | arm => exact executeFront_of h fun r _ => triggerOk_armBody r hpop
  | disarm => exact executeFront_of h fun r _ => triggerOk_disarmBody r hpop
  | clearHalt => exact executeFront_of h fun r _ => triggerOk_clearHaltBody r hpop
  | echo | readStatus | getParameter | writeProgramEntry | readProgramEntry | readCondition | openWindow | closeWindow
  | discardRecord | readCounters | resetEngine =>
    exact h.of_eq (executeFront_frame (·.trigger) (by simp) (by simp))
      (executeFront_frame (·.capture.state) (by simp) (by simp))
      (executeFront_frame (·.capture.openRecord) (by simp) (by simp)) (executeFront_frame (·.params) (by simp) (by simp))
  | unknownRequestKind | spacingTimerExpiry | convertSent | quarantineExpiry | recordFrameEnd | frameTransmissionEnd =>
    exact h.of_eq (by simp [effect]) (by simp [effect]) (by simp [effect]) (by simp [effect])
  | requestArrival r => exact triggerOk_receiveRequest r h
  | sampleReceived f lines => exact triggerOk_receiveSample f (seen lines)
  | passbackReceived f => exact triggerOk_receiveIntakeFrame f h
  | badFrame p lines => exact triggerOk_receiveBadFrame p (seen lines)
  | idleAlignmentSequence p => exact triggerOk_setLink _ _ h
  | goodIdleGroup p => exact triggerOk_setLink _ _ h
  | malformedIdleGroup p lines => exact triggerOk_setLink _ _ (seen lines)
  | lossOfSignal p lines => exact triggerOk_setLink _ _ (seen lines)
  | frameReceivedWhileAligning p good => exact triggerOk_frameWhileAligning p good h
  | pacerExpiry lines => exact triggerOk_pacerExpires (seen lines)
  | sweepStartEdge level lines => exact triggerOk_startLineLevel level (seen lines)
  | requestTimeout tag lines => exact triggerOk_requestTimesOut _ (seen lines)
  | trigoutPulseExpiry => exact triggerOk_pulseExpires h
  | resetEffects => exact triggerOk_resetCompletes h
  | hardReset straps level =>
    have hreset := inv_afterReset (nodeOfStraps straps) level
    exact (hreset.trigger.ok hreset.capture hreset.params).of_eq rfl rfl rfl rfl

end

/-- Settles O9: the run, the tables, and the Trigger Unit with capture. -/
theorem runStateAgreesWithTheSweep : Obligations.RunStateAgreesWithTheSweep := by
  unfold Obligations.RunStateAgreesWithTheSweep
  refine ⟨runInv_step, tablesInv_step, fun s t h hc hp hs => ?_⟩
  have hok := h.ok hc hp
  unfold step at hs
  split at hs
  · next c rest hpending =>
    rw [exec_effect] at hs
    cases hs
    refine TriggerOk.inv ((triggerOk_effect c (s := { s with pending := rest }) (hp.of_params rfl)
      (hok.of_eq rfl rfl rfl rfl)).of_eq (by simp) (by simp) (by simp) (by simp))
  · cases hs
    exact (triggerOk_idle hok).inv

end Sys2Proof.Machine
end

section
/-! PROOFS. The cells of the store and the capture state: the invariant by kind of state, and what capture's operations keep
of it (04, 05): part of O12. -/

namespace Sys2Proof.Machine

/-! ## The capture state, by kind (R81, R82, R87, R97, R104, R113) -/

/-- Capture that waits, in IDLE or HALTED: no record, no reservation, no history. -/
structure RestCore (s : State) : Prop where
  noRecord : s.capture.openRecord = none
  reservation : s.memory.reservation = 0
  history : s.memory.history = []
  room : s.delivery.queue.length ≤ 16
  block : ∀ b, s.memory.current = some b → b.cells.length = s.sweeper.fixedS

/-- Capture that is armed: its state goes by the history count, and a record finds its header's cells and a place. -/
structure ArmedCore (s : State) : Prop where
  state : s.capture.state = armedState s
  noRecord : s.capture.openRecord = none
  reservation : s.memory.reservation = 4
  size : s.memory.history.length ≤ s.params.pretriggerSweeps
  haltCause : s.capture.haltCause = .none
  quota : 1 ≤ s.capture.quota
  room : s.delivery.queue.length < 16
  blocks : ∀ b ∈ s.memory.history ++ s.memory.current.toList, b.cells.length = s.sweeper.fixedS

/-- Capture with an open record, whose blocks are those its header will count. -/
structure PostCore (s : State) (o : OpenRecord) : Prop where
  record : s.capture.openRecord = some o
  reservation : s.memory.reservation = 0
  history : s.memory.history = []
  haltCause : s.capture.haltCause = .none
  room : s.delivery.queue.length < 16
  block : ∀ b, s.memory.current = some b → b.cells.length = s.sweeper.fixedS
  size : o.s = s.sweeper.fixedS
  blocks : ∀ b ∈ o.blocks, b.cells.length = o.s
  count : o.blocks.length = o.preBlocks + (if o.headLost then 0 else 1) + o.postStored s.params.posttriggerSweeps

/-- The invariant of capture, but for what it says of the run and the sweep: one case per kind of capture state. -/
inductive CaptureCore (s : State) : Prop
  | rest (state : s.capture.state = .idle ∨ s.capture.state = .halted)
      (cause : s.capture.haltCause = .none ↔ s.capture.state ≠ .halted) (core : RestCore s)
  | armed (core : ArmedCore s)
  | post (o : OpenRecord) (state : s.capture.state = .post) (quota : 1 ≤ s.capture.quota)
      (remaining : 1 ≤ o.postRemaining ∧ o.postRemaining ≤ s.params.posttriggerSweeps) (core : PostCore s o)

/-- What the invariant of capture says of the run and the sweep in progress (R23, R97, R108). -/
structure CaptureRun (s : State) : Prop where
  haltedRun : s.capture.state = .halted → s.sweeper.run = .stopped ∨ s.sweeper.run = .stopping
  postRun : s.capture.state = .post → s.sweeper.run ≠ .stopped
  block : s.memory.current.isSome → s.sweeper.sweep.isSome
  postStored : s.capture.state = .post → s.sweeper.sweep.isSome → s.memory.current.isSome

section
variable {s : State}

theorem ArmedCore.armed (h : ArmedCore s) : s.capture.state.armed = true := by
  rw [h.state]
  exact armedState_armed s

theorem armedState_eq_ready : armedState s = .ready ↔ s.memory.history.length = s.params.pretriggerSweeps := by
  unfold armedState
  split <;> simp [*]

theorem armedState_eq_filling : armedState s = .filling ↔ s.memory.history.length ≠ s.params.pretriggerSweeps := by
  unfold armedState
  split <;> simp [*]

theorem RestCore.openCount (h : RestCore s) : s.capture.openCount = 0 := by
  simp [CaptureController.openCount, h.noRecord]

theorem CaptureInv.core (h : CaptureInv s) : CaptureCore s := by
  have rest (hstate : s.capture.state = .idle ∨ s.capture.state = .halted) : CaptureCore s := by
    have hnot : s.capture.state ≠ .post := by rcases hstate with hs | hs <;> simp [hs]
    have harmed : s.capture.state.armed = false := by rcases hstate with hs | hs <;> simp [hs, CaptureState.armed]
    refine .rest hstate h.haltCause ⟨by simpa [hnot] using h.post, by simpa [harmed] using h.reservation, h.history harmed,
      Nat.le_trans (Nat.le_add_right _ _) h.queueRoom, fun b hb => h.blockSize b (by simp [hb])⟩
  have armed (harmed : s.capture.state.armed = true) : CaptureCore s := by
    have hnot := ne_post_of_armed harmed
    have hcause : s.capture.haltCause = .none := h.haltCause.mpr fun hs => by simp [hs, CaptureState.armed] at harmed
    have hrecord : s.capture.openRecord = none := by simpa [hnot] using h.post
    have hreservation : s.memory.reservation = 4 := by simpa [harmed] using h.reservation
    rcases CaptureState.armed_iff.mp harmed with hs | hs
    · have hlt := h.filling hs
      exact .armed ⟨hs.trans (armedState_eq_filling.mpr (Nat.ne_of_lt hlt)).symm, hrecord, hreservation, Nat.le_of_lt hlt,
        hcause, h.quota (.inl harmed), h.armedRoom harmed, h.blockSize⟩
    · have heq := h.ready hs
      exact .armed ⟨hs.trans (armedState_eq_ready.mpr heq).symm, hrecord, hreservation, Nat.le_of_eq heq, hcause,
        h.quota (.inl harmed), h.armedRoom harmed, h.blockSize⟩
  cases hs : s.capture.state with
  | idle => exact rest (.inl hs)
  | halted => exact rest (.inr hs)
  | filling | ready => exact armed (by simp [hs, CaptureState.armed])
  | post =>
    obtain ⟨o, ho⟩ := Option.isSome_iff_exists.mp (h.post.mp hs)
    have harmed : s.capture.state.armed = false := by simp [hs, CaptureState.armed]
    obtain ⟨hsize, hblocks, hpos, hle, hcount⟩ := h.openBlocks o ho
    have hroom := h.queueRoom
    simp only [CaptureController.openCount, ho, Option.isSome_some, if_true] at hroom
    exact .post o hs (h.quota (.inr hs)) ⟨hpos, hle⟩ ⟨ho, by simpa [harmed] using h.reservation, h.history harmed,
      h.haltCause.mpr (by simp [hs]), hroom, fun b hb => h.blockSize b (by simp [hb]), hsize, hblocks, hcount⟩

theorem CaptureInv.run (h : CaptureInv s) : CaptureRun s := ⟨h.haltedRun, h.postRun, h.block, h.postStored⟩

theorem CaptureCore.inv (h : CaptureCore s) (hrun : CaptureRun s) : CaptureInv s := by
  obtain ⟨hhalted, hpostRun, hblock, hstored⟩ := hrun
  cases h with
  | rest hstate hcause core =>
    obtain ⟨hrecord, hreservation, hhistory, hroom, hsize⟩ := core
    have hnot : s.capture.state ≠ .post := by rcases hstate with hs | hs <;> simp [hs]
    have harmed : s.capture.state.armed = false := by rcases hstate with hs | hs <;> simp [hs, CaptureState.armed]
    have hfilling : s.capture.state ≠ .filling := by rcases hstate with hs | hs <;> simp [hs]
    have hready : s.capture.state ≠ .ready := by rcases hstate with hs | hs <;> simp [hs]
    exact ⟨iff_of_false hnot (by simp [hrecord]), by simp [hreservation, harmed], fun _ => hhistory,
      fun hf => absurd hf hfilling, fun hr => absurd hr hready, hcause, fun hq => by simp [harmed, hnot] at hq,
      hhalted, hpostRun, by simpa [CaptureController.openCount, hrecord] using hroom, by simp [harmed], hblock, hstored,
      fun b hb => hsize b (by simpa [hhistory] using hb), fun r hr => by simp [hrecord] at hr⟩
  | armed core =>
    have harmed := core.armed
    obtain ⟨hstate, hrecord, hreservation, hsize, hcause, hquota, hroom, hblocks⟩ := core
    have hnot := ne_post_of_armed harmed
    have hhalt : s.capture.state ≠ .halted := fun hs => by simp [hs, CaptureState.armed] at harmed
    refine ⟨iff_of_false hnot (by simp [hrecord]), by simp [hreservation, harmed], by simp [harmed], fun hf => ?_,
      fun hr => ?_, iff_of_true hcause hhalt, fun _ => hquota, hhalted, hpostRun, ?_, fun _ => hroom, hblock, hstored,
      hblocks, fun r hr => by simp [hrecord] at hr⟩
    · exact Nat.lt_of_le_of_ne hsize (armedState_eq_filling.mp (hstate.symm.trans hf))
    · exact armedState_eq_ready.mp (hstate.symm.trans hr)
    · simpa [CaptureController.openCount, hrecord] using Nat.le_of_lt hroom
  | post o hstate hquota hremaining core =>
    obtain ⟨hrecord, hreservation, hhistory, hcause, hroom, hblockSize, hs, hblocks, hcount⟩ := core
    refine ⟨iff_of_true hstate (by simp [hrecord]), by simp [hreservation, hstate, CaptureState.armed], fun _ => hhistory,
      by simp [hstate], by simp [hstate], iff_of_true hcause (by simp [hstate]), fun _ => hquota, hhalted, hpostRun, ?_,
      by simp [hstate, CaptureState.armed], hblock, hstored, fun b hb => hblockSize b (by simpa [hhistory] using hb),
      fun r hr => ?_⟩
    · simpa [CaptureController.openCount, hrecord] using hroom
    · rw [hrecord, Option.some.injEq] at hr
      subst hr
      exact ⟨hs, hblocks, hremaining.1, hremaining.2, hcount⟩

theorem captureInv_iff : CaptureInv s ↔ CaptureCore s ∧ CaptureRun s := ⟨fun h => ⟨h.core, h.run⟩, fun h => h.1.inv h.2⟩

/-- Capture at rest is in IDLE or HALTED. -/
theorem CaptureCore.restCore (h : CaptureCore s) (hstate : s.capture.state = .idle ∨ s.capture.state = .halted) :
    RestCore s ∧ (s.capture.haltCause = .none ↔ s.capture.state ≠ .halted) := by
  cases h with
  | rest _ cause core => exact ⟨core, cause⟩
  | armed core =>
    have harmed := core.armed
    rcases hstate with hs | hs <;> simp [hs, CaptureState.armed] at harmed
  | post o hpost => rcases hstate with hs | hs <;> simp [hpost] at hs

theorem CaptureCore.armedCore (h : CaptureCore s) (harmed : s.capture.state.armed = true) : ArmedCore s := by
  cases h with
  | rest hstate => rcases hstate with hs | hs <;> simp [hs, CaptureState.armed] at harmed
  | armed core => exact core
  | post o hpost => simp [hpost, CaptureState.armed] at harmed

theorem CaptureCore.postCore (h : CaptureCore s) (hpost : s.capture.state = .post) :
    ∃ o, 1 ≤ s.capture.quota ∧ (1 ≤ o.postRemaining ∧ o.postRemaining ≤ s.params.posttriggerSweeps) ∧ PostCore s o := by
  cases h with
  | rest hstate => rcases hstate with hs | hs <;> simp [hpost] at hs
  | armed core => exact absurd hpost (ne_post_of_armed core.armed)
  | post o _ hquota hremaining core => exact ⟨o, hquota, hremaining, core⟩

/-! ## The cells of the store (R71, R74) -/

/-- The cells of all holdings. -/
def State.cellsHeld (s : State) : Nat :=
  s.memory.free + blocksCost s.memory.history + s.memory.currentCells + s.capture.openCells + s.delivery.queuedCells +
    s.memory.reservation

theorem storeInv_iff (s : State) : StoreInv s ↔ s.cellsHeld = 8192 := Iff.rfl

/-- The holdings add up, the queued records are as their headers say where `rec` asks for it, and the parameters are in
range. -/
structure Holdings (rec : Prop) (s : State) : Prop where
  store : StoreInv s
  records : rec → RecordsInv s
  position : s.delivery.queue = [] → s.delivery.position = 0
  params : ParamsInv s

variable {rec : Prop}

theorem RecordsInv.of_eq {t : State} (h : RecordsInv s) (hqueue : t.delivery.queue = s.delivery.queue)
    (hposition : t.delivery.position = s.delivery.position) : RecordsInv t := by
  obtain ⟨h1, h2⟩ := h
  rw [← hqueue, ← hposition] at h1
  rw [← hqueue] at h2
  exact ⟨h1, h2⟩

/-- What moves cells between holdings, but none into or out of the Delivery Queue, keeps them added up. -/
theorem Holdings.of_cells {t : State} (h : Holdings rec s) (hcells : t.cellsHeld = s.cellsHeld)
    (hqueue : t.delivery.queue = s.delivery.queue) (hposition : t.delivery.position = s.delivery.position)
    (hparams : t.params = s.params) : Holdings rec t :=
  ⟨hcells.trans h.store, fun hr => (h.records hr).of_eq hqueue hposition, by rw [hqueue, hposition]; exact h.position,
    h.params.of_params hparams⟩

theorem cellsHeld_congr {t : State} (hmemory : t.memory = s.memory) (hrecord : t.capture.openRecord = s.capture.openRecord)
    (hqueue : t.delivery.queue = s.delivery.queue) : t.cellsHeld = s.cellsHeld := by
  simp only [State.cellsHeld, CaptureController.openCells, DeliveryUnit.queuedCells, hmemory, hrecord, hqueue]

theorem Holdings.of_eq {t : State} (h : Holdings rec s) (hmemory : t.memory = s.memory)
    (hrecord : t.capture.openRecord = s.capture.openRecord) (hqueue : t.delivery.queue = s.delivery.queue)
    (hposition : t.delivery.position = s.delivery.position) (hparams : t.params = s.params) : Holdings rec t :=
  h.of_cells (cellsHeld_congr hmemory hrecord hqueue) hqueue hposition hparams

theorem RestCore.of_eq {t : State} (h : RestCore s) (hmemory : t.memory = s.memory)
    (hrecord : t.capture.openRecord = s.capture.openRecord) (hqueue : t.delivery.queue = s.delivery.queue)
    (hfixed : t.sweeper.fixedS = s.sweeper.fixedS) : RestCore t := by
  obtain ⟨h1, h2, h3, h4, h5⟩ := h
  exact ⟨hrecord.trans h1, hmemory ▸ h2, hmemory ▸ h3, hqueue ▸ h4, by rw [hmemory, hfixed]; exact h5⟩

theorem CaptureCore.of_eq {t : State} (h : CaptureCore s) (hcapture : t.capture = s.capture) (hmemory : t.memory = s.memory)
    (hqueue : t.delivery.queue = s.delivery.queue) (hpre : t.params.pretriggerSweeps = s.params.pretriggerSweeps)
    (hpost : t.params.posttriggerSweeps = s.params.posttriggerSweeps) (hfixed : t.sweeper.fixedS = s.sweeper.fixedS) :
    CaptureCore t := by
  cases h with
  | rest state cause core =>
    exact .rest (hcapture ▸ state) (hcapture ▸ cause) (core.of_eq hmemory (by rw [hcapture]) hqueue hfixed)
  | armed core =>
    obtain ⟨h1, h2, h3, h4, h5, h6, h7, h8⟩ := core
    refine .armed ⟨?_, hcapture ▸ h2, hmemory ▸ h3, ?_, hcapture ▸ h5, hcapture ▸ h6, hqueue ▸ h7, ?_⟩
    · rw [hcapture, h1, armedState, armedState, hmemory, hpre]
    · rw [hmemory, hpre]
      exact h4
    · rw [hmemory, hfixed]
      exact h8
  | post o state quota remaining core =>
    obtain ⟨h1, h2, h3, h4, h5, h6, h7, h8, h9⟩ := core
    refine .post o (hcapture ▸ state) (hcapture ▸ quota) (hpost ▸ remaining) ⟨hcapture ▸ h1, hmemory ▸ h2, hmemory ▸ h3,
      hcapture ▸ h4, hqueue ▸ h5, ?_, hfixed ▸ h7, h8, hpost ▸ h9⟩
    rw [hmemory, hfixed]
    exact h6

/-- Capture and its cells agree, whatever the run does. -/
structure CellsOk (rec : Prop) (s : State) : Prop where
  core : CaptureCore s
  holds : Holdings rec s

theorem CellsOk.of_eq {t : State} (h : CellsOk rec s) (hcapture : t.capture = s.capture) (hmemory : t.memory = s.memory)
    (hqueue : t.delivery.queue = s.delivery.queue) (hposition : t.delivery.position = s.delivery.position)
    (hparams : t.params = s.params) (hfixed : t.sweeper.fixedS = s.sweeper.fixedS) : CellsOk rec t :=
  ⟨h.core.of_eq hcapture hmemory hqueue (by rw [hparams]) (by rw [hparams]) hfixed, h.holds.of_eq hmemory (by rw [hcapture]) hqueue hposition hparams⟩

/-! ## The close of a record and what follows it (R98, R100 to R104) -/

/-- Capture and its cells when a record has closed and the next capture state is not yet set. -/
structure RecordClosed (rec : Prop) (s : State) : Prop where
  core : RestCore s
  haltCause : s.capture.haltCause = .none
  holds : Holdings rec s

theorem RecordClosed.of_eq {t : State} (h : RecordClosed rec s) (hmemory : t.memory = s.memory)
    (hrecord : t.capture.openRecord = s.capture.openRecord) (hcause : t.capture.haltCause = s.capture.haltCause)
    (hqueue : t.delivery.queue = s.delivery.queue) (hposition : t.delivery.position = s.delivery.position)
    (hparams : t.params = s.params) (hfixed : t.sweeper.fixedS = s.sweeper.fixedS) : RecordClosed rec t :=
  ⟨h.core.of_eq hmemory hrecord hqueue hfixed, hcause.trans h.haltCause,
    h.holds.of_eq hmemory hrecord hqueue hposition hparams⟩

/-- A record is queued with the cells it held while it was open. -/
theorem close_cells_length (o : OpenRecord) (post : Nat) (truncated cut : Bool) :
    (o.close post truncated cut).cells.length = 4 + blocksCost o.blocks := by
  simp [OpenRecord.close, Config.headerCells, blocksCost]

theorem closeRecord_queue {o : OpenRecord} (truncated cut : Bool) (ho : s.capture.openRecord = some o) :
    (closeRecord truncated cut s).delivery.queue =
      s.delivery.queue ++ [o.close s.params.posttriggerSweeps truncated cut] := by
  rw [closeRecord_of_open truncated cut ho]
  simp

theorem closeRecord_openRecord (truncated cut : Bool) (s : State) : (closeRecord truncated cut s).capture.openRecord = none := by
  unfold closeRecord
  split
  · assumption
  · simp

/-- A record joins the queue as the last one, with all its cells. -/
theorem RecordsInv.append {t : State} {q : QueuedRecord} (h : RecordsInv s)
    (hposition : s.delivery.queue = [] → s.delivery.position = 0) (hq : q.cells.length = q.header.total)
    (hqueue : t.delivery.queue = s.delivery.queue ++ [q]) (ht : t.delivery.position = s.delivery.position) :
    RecordsInv t := by
  obtain ⟨hhead, hwaiting⟩ := h
  cases hs : s.delivery.queue with
  | nil =>
    rw [hs, List.nil_append] at hqueue
    refine ⟨fun x hx _ => ?_, by simp [hqueue]⟩
    rw [hqueue, List.head?_cons, Option.some.injEq] at hx
    rw [← hx, ht, hposition hs, hq, Nat.add_zero]
  | cons y ys =>
    rw [hs, List.cons_append] at hqueue
    refine ⟨fun x hx hd => ?_, fun x hx => ?_⟩
    · rw [hqueue, List.head?_cons] at hx
      rw [ht]
      exact hhead x (by rw [hs, List.head?_cons]; exact hx) hd
    · rw [hqueue, List.tail_cons, List.mem_append, List.mem_singleton] at hx
      rcases hx with hx | rfl
      · exact hwaiting x (by simpa [hs] using hx)
      · exact hq

theorem recordClosed_closeRecord {o : OpenRecord} (truncated cut : Bool) (h : PostCore s o) (hh : Holdings rec s) :
    RecordClosed rec (closeRecord truncated cut s) := by
  obtain ⟨hrecord, hreservation, hhistory, hcause, hroom, hblock, hsize, hblocks, hcount⟩ := h
  obtain ⟨hstore, hrecords, hposition, hparams⟩ := hh
  have hqueue := closeRecord_queue truncated cut hrecord
  refine ⟨⟨closeRecord_openRecord _ _ _, by simpa using hreservation, by simpa using hhistory, ?_, by simpa using hblock⟩,
    by simpa using hcause, ?_, fun hr => ?_, fun hnil => ?_, hparams.of_params (by simp)⟩
  · rw [hqueue]
    simpa using hroom
  · rw [storeInv_iff] at hstore ⊢
    simp only [State.cellsHeld, CaptureController.openCells, hrecord, DeliveryUnit.queuedCells, Config.headerCells,
      closeRecord_openRecord, hqueue, closeRecord_keeps, List.map_append, List.sum_append, List.map_cons, List.map_nil,
      List.sum_cons, List.sum_nil, close_cells_length] at hstore ⊢
    omega
  · exact (hrecords hr).append hposition (close_cells_total o _ truncated cut hblocks hcount) hqueue (by simp)
  · simp [hqueue] at hnil

/-- HALTED names a cause (R104). -/
theorem cellsOk_enterHalted {cause : HaltCause} (hcause : cause ≠ .none) (h : RecordClosed rec s) :
    CellsOk rec (enterHalted cause s) := by
  obtain ⟨hcore, -, hh⟩ := h
  have hstate : (enterHalted cause s).capture.state = .halted := by simp [enterHalted]
  have hset : (enterHalted cause s).capture.haltCause = cause := by simp [enterHalted]
  refine ⟨.rest (.inr hstate) ?_ (hcore.of_eq (by simp) (by simp) (by simp) (by simp)),
    hh.of_eq (by simp) (by simp) (by simp) (by simp) (by simp)⟩
  rw [hset, hstate]
  exact iff_of_false hcause (by simp)

/-- Capture in IDLE after a close, or after what ends as one. -/
theorem RecordClosed.idle (h : RecordClosed rec s) (hs : s.capture.state = .idle) : CellsOk rec s :=
  ⟨.rest (.inl hs) (iff_of_true h.haltCause (by simp [hs])) h.core, h.holds⟩

theorem cellsOk_armNow (h : RecordClosed rec s) (hfree : 4 ≤ s.memory.free) (hroom : s.delivery.queue.length < 16)
    (hquota : 1 ≤ s.capture.quota) : CellsOk rec (armNow s) := by
  obtain ⟨⟨hrecord, hreservation, hhistory, -, hblock⟩, hcause, hh⟩ := h
  refine ⟨.armed ⟨rfl, by simpa using hrecord, rfl, by simp [hhistory], by simpa using hcause, by simpa using hquota,
    by simpa using hroom, fun b hb => ?_⟩, hh.of_cells ?_ (by simp) (by simp) (by simp)⟩
  · simpa using hblock b (by simpa [hhistory] using hb)
  · simp only [State.cellsHeld, armNow_keeps, CaptureMemory.currentCells, CaptureController.openCells, hreservation]
    simp only [armNow, setArmedState, setStageAfresh, takeReservation, Config.headerCells]
    omega

theorem cellsOk_rearm (h : RecordClosed rec s) (hquota : 1 ≤ s.capture.quota) : CellsOk rec (rearm s) := by
  unfold rearm
  split
  · exact cellsOk_enterHalted (by simp) h
  · next hfree =>
    split
    · exact cellsOk_enterHalted (by simp) h
    · next hroom =>
      have hfree : ¬ s.memory.free < 4 := hfree
      have hroom : ¬ 16 ≤ s.delivery.queue.length := hroom
      exact cellsOk_armNow h (by omega) (by omega) hquota

theorem cellsOk_quotaPath (h : RecordClosed rec s) : CellsOk rec (quotaPath s) := by
  unfold quotaPath
  split
  · next hquota => exact cellsOk_rearm h hquota
  · split
    · exact cellsOk_rearm (h.of_eq rfl rfl rfl rfl rfl rfl rfl) h.holds.params.captureQuota.1
    · exact RecordClosed.idle (s := { s with capture.state := .idle }) (h.of_eq rfl rfl rfl rfl rfl rfl rfl) rfl

theorem cellsOk_runEndReport (h : CellsOk rec s) : CellsOk rec (runEndReport s) := by
  by_cases hpost : s.capture.state = .post
  · obtain ⟨o, -, -, hcore⟩ := h.core.postCore hpost
    rw [runEndReport_of_post hpost]
    exact cellsOk_quotaPath (recordClosed_closeRecord _ _ hcore h.holds)
  · rw [runEndReport_of_not_post hpost]
    exact h

/-! ## What the run is after capture has acted (R23, R108) -/

/-- A halt leaves the run STOPPED or on its way there. -/
theorem halted_run (c : SweepController) : c.halted.run = .stopped ∨ c.halted.run = .stopping := by
  unfold SweepController.halted
  split
  · next h => exact .inl h
  · next h => exact .inr h
  · exact .inl rfl
  · split
    · exact .inr rfl
    · exact .inl rfl
  · split
    · exact .inr rfl
    · exact .inl rfl

theorem enterHalted_run (cause : HaltCause) (s : State) :
    (enterHalted cause s).sweeper.run = .stopped ∨ (enterHalted cause s).sweeper.run = .stopping := by
  rw [enterHalted, haltStopDemand_sweeper]
  exact halted_run _

theorem captureRun_enterHalted (cause : HaltCause) (hblock : s.memory.current.isSome → s.sweeper.sweep.isSome) :
    CaptureRun (enterHalted cause s) := by
  have hstate : (enterHalted cause s).capture.state = .halted := by simp [enterHalted]
  exact ⟨fun _ => enterHalted_run cause s, by simp [hstate], by simpa using hblock, by simp [hstate]⟩

theorem captureRun_armNow (hblock : s.memory.current.isSome → s.sweeper.sweep.isSome) : CaptureRun (armNow s) := by
  have harmed : (armNow s).capture.state.armed = true := armedState_armed _
  exact ⟨fun hs => by simp [hs, CaptureState.armed] at harmed, fun hs => absurd hs (ne_post_of_armed harmed),
    by simpa using hblock, fun hs => absurd hs (ne_post_of_armed harmed)⟩

/-- After the quota path capture is not in POST, and HALTED only with its stop demand made. -/
theorem captureRun_quotaPath (hblock : s.memory.current.isSome → s.sweeper.sweep.isSome) : CaptureRun (quotaPath s) := by
  have rearmed {u : State} (hu : u.memory.current.isSome → u.sweeper.sweep.isSome) : CaptureRun (rearm u) := by
    unfold rearm
    split
    · exact captureRun_enterHalted _ hu
    · split
      · exact captureRun_enterHalted _ hu
      · exact captureRun_armNow hu
  unfold quotaPath
  split
  · exact rearmed hblock
  · split
    · exact rearmed hblock
    · exact ⟨by simp, by simp, hblock, by simp⟩

theorem captureRun_runEndReport (hhalted : s.capture.state = .halted → s.sweeper.run = .stopped ∨ s.sweeper.run = .stopping)
    (hblock : s.memory.current.isSome → s.sweeper.sweep.isSome) : CaptureRun (runEndReport s) := by
  by_cases hpost : s.capture.state = .post
  · rw [runEndReport_of_post hpost]
    exact captureRun_quotaPath (by simpa using hblock)
  · rw [runEndReport_of_not_post hpost]
    exact ⟨hhalted, fun hp => absurd hp hpost, hblock, fun hp => absurd hp hpost⟩

end

end Sys2Proof.Machine
end

section
/-! PROOFS. What the blocks of a sweep become: the block request, the samples, the completed sweep (04, 05): part of O12. -/

namespace Sys2Proof.Machine

section
variable {s : State} {rec : Prop}

/-! ## A completed sweep (R80, R81, R92 to R97) -/

theorem asTrigger_cost (b : Block) : b.asTrigger.cost = b.cost := rfl

/-- A block handed over to the record keeps its cells. -/
theorem blocksCost_current (s : State) :
    blocksCost (s.memory.current.map Block.asTrigger).toList = s.memory.currentCells := by
  unfold CaptureMemory.currentCells
  cases s.memory.current with
  | none => rfl
  | some b => simp [asTrigger_cost]

theorem blocksCost_currentList (s : State) : blocksCost s.memory.current.toList = s.memory.currentCells := by
  unfold CaptureMemory.currentCells
  cases s.memory.current <;> simp

/-- The record that a hand-over opens (R83, R95). -/
def State.handedOver (s : State) (cause : Cause) (number : Word) : OpenRecord :=
  { id := s.capture.nextId, cause, shortHead := decide (s.capture.state = .filling),
    headLost := s.memory.current.isNone, s := s.sweeper.fixedS, triggerSweep := number,
    preBlocks := s.memory.history.length, postRemaining := s.params.posttriggerSweeps,
    blocks := s.memory.history ++ (s.memory.current.map Block.asTrigger).toList }

theorem openRecord_parts (cause : Cause) (number : Word) (s : State) :
    (openRecord cause number s).capture.openRecord = some (s.handedOver cause number) ∧
    (openRecord cause number s).memory = { s.memory with reservation := 0, history := [], current := none } := by
  simp [openRecord, State.handedOver]

/-- The header's cells come of the reservation, the blocks of the history and the trigger sweep. -/
theorem cellsOk_openRecord (cause : Cause) (number : Word) (hcore : ArmedCore s) (hh : Holdings rec s) :
    CellsOk rec (openRecord cause number s) := by
  obtain ⟨hopen, hmemory⟩ := openRecord_parts cause number s
  obtain ⟨hpost, -⟩ := openRecord_state cause number s
  obtain ⟨-, hrecord, hreservation, -, hcause, hquota, hroom, hblocks⟩ := hcore
  refine ⟨.post (s.handedOver cause number) hpost (by simpa using hquota)
    ⟨hh.params.posttriggerSweeps.1, by simp [State.handedOver]⟩ ⟨hopen, by rw [hmemory], by rw [hmemory], by simpa using hcause,
      by simpa using hroom, by simp [hmemory], by simp [State.handedOver], fun b hb => ?_, ?_⟩,
    hh.of_cells ?_ (by simp) (by simp) (by simp)⟩
  · simp only [State.handedOver, List.mem_append] at hb ⊢
    rcases hb with hb | hb
    · exact hblocks b (List.mem_append_left _ hb)
    · obtain ⟨x, hx, rfl⟩ := Option.map_eq_some_iff.mp (Option.mem_toList.mp hb)
      exact hblocks x (by simp [hx])
  · cases hc : s.memory.current <;> simp [State.handedOver, OpenRecord.postStored, hc]
  · have hcells : (openRecord cause number s).capture.openCells =
        4 + (blocksCost s.memory.history + s.memory.currentCells) := by
      simp only [CaptureController.openCells, hopen, State.handedOver, blocksCost_append, blocksCost_current,
        Config.headerCells]
    simp only [State.cellsHeld, hcells, hmemory, openRecord_keeps]
    simp only [CaptureMemory.currentCells, CaptureController.openCells, hrecord, hreservation, blocksCost_nil]
    omega

/-- Blocks dropped from the front of the history free what they cost. -/
theorem blocksCost_take_drop (k : Nat) (bs : List Block) : blocksCost (bs.take k) + blocksCost (bs.drop k) = blocksCost bs := by
  rw [← blocksCost_append, List.take_append_drop]

/-- With a history within its bound, the state set from its count is one of the armed ones (R93). -/
theorem armedCore_setArmedState (hrecord : s.capture.openRecord = none) (hreservation : s.memory.reservation = 4)
    (hsize : s.memory.history.length ≤ s.params.pretriggerSweeps) (hcause : s.capture.haltCause = .none)
    (hquota : 1 ≤ s.capture.quota) (hroom : s.delivery.queue.length < 16)
    (hblocks : ∀ b ∈ s.memory.history ++ s.memory.current.toList, b.cells.length = s.sweeper.fixedS) :
    ArmedCore (setArmedState s) := ⟨rfl, hrecord, hreservation, hsize, hcause, hquota, hroom, hblocks⟩

/-- The block of the sweep goes to the history, and the oldest leaves it when it is one too many (R80, R81). -/
theorem cellsOk_historyAppend (hcore : ArmedCore s) (hh : Holdings rec s) : CellsOk rec (historyAppend s) := by
  obtain ⟨-, hrecord, hreservation, hsize, hcause, hquota, hroom, hblocks⟩ := hcore
  cases hc : s.memory.current with
  | none =>
    rw [historyAppend_of_unstored hc]
    exact ⟨.armed (armedCore_setArmedState hrecord hreservation hsize hcause hquota hroom hblocks),
      hh.of_eq rfl rfl rfl rfl rfl⟩
  | some b =>
    rw [historyAppend_of_block hc, trimHistory_eq]
    dsimp only
    generalize hk : trimCount s.params.pretriggerSweeps (s.memory.history ++ [b]) = k
    refine ⟨.armed (armedCore_setArmedState hrecord hreservation ?_ hcause hquota hroom fun x hx => hblocks x ?_),
      hh.of_cells ?_ rfl rfl rfl⟩
    · simp only [trimCount, List.length_append, List.length_singleton] at hk
      simp only [List.length_drop, List.length_append, List.length_singleton]
      split at hk <;> omega
    · simp only [Option.toList_none, List.append_nil] at hx
      simpa [hc] using List.mem_of_mem_drop hx
    · have hsplit := blocksCost_take_drop k (s.memory.history ++ [b])
      rw [blocksCost_append, blocksCost_cons, blocksCost_nil] at hsplit
      simp only [State.cellsHeld, setArmedState, CaptureMemory.currentCells, CaptureController.openCells, hc]
      omega

/-- The block of a sweep that is not wanted is freed (R80, R84). -/
theorem discardBlock_cellsHeld (s : State) : (discardBlock s).cellsHeld = s.cellsHeld := by
  unfold discardBlock
  split
  · next b hb =>
    simp only [State.cellsHeld, CaptureMemory.currentCells, hb]
    omega
  · rfl

theorem discardBlock_current (s : State) : (discardBlock s).memory.current = none := by
  unfold discardBlock
  split
  · rfl
  · assumption

theorem cellsOk_discardBlock (hstate : s.capture.state = .idle ∨ s.capture.state = .halted) (h : CellsOk rec s) :
    CellsOk rec (discardBlock s) := by
  obtain ⟨⟨hrecord, hreservation, hhistory, hroom, -⟩, hcause⟩ := h.core.restCore hstate
  exact ⟨.rest (by simpa using hstate) (by simpa using hcause) ⟨by simpa using hrecord, by simpa using hreservation,
    by simpa using hhistory, by simpa using hroom, by simp [discardBlock_current]⟩,
    h.holds.of_cells (discardBlock_cellsHeld s) (by simp) (by simp) (by simp)⟩

/-- The open record with the block of the sweep that completes (R97). -/
def OpenRecord.withBlock (o : OpenRecord) (b : Block) : OpenRecord :=
  { o with blocks := o.blocks ++ [b], postRemaining := o.postRemaining - 1 }

/-- The block joins the open record and the count remaining falls (R97). -/
theorem postCore_withBlock {o : OpenRecord} {b : Block} (hcore : PostCore s o) (hb : s.memory.current = some b)
    (hremaining : 1 ≤ o.postRemaining ∧ o.postRemaining ≤ s.params.posttriggerSweeps) :
    PostCore { s with capture.openRecord := some (o.withBlock b), memory.current := none } (o.withBlock b) := by
  obtain ⟨-, hreservation, hhistory, hcause, hroom, hblock, hsize, hblocks, hcount⟩ := hcore
  refine ⟨rfl, hreservation, hhistory, hcause, hroom, by simp, hsize, fun x hx => ?_, ?_⟩
  · rcases List.mem_append.mp hx with hx | hx
    · exact hblocks x hx
    · rw [List.mem_singleton.mp hx]
      exact (hblock b hb).trans hsize.symm
  · have hmore : s.params.posttriggerSweeps - (o.postRemaining - 1) = s.params.posttriggerSweeps - o.postRemaining + 1 := by
      omega
    simp only [OpenRecord.withBlock, OpenRecord.postStored, List.length_append, List.length_singleton, hmore, hcount]
    exact Nat.add_assoc _ _ _

theorem holdings_withBlock {o : OpenRecord} {b : Block} (ho : s.capture.openRecord = some o) (hb : s.memory.current = some b)
    (hh : Holdings rec s) :
    Holdings rec { s with capture.openRecord := some (o.withBlock b), memory.current := none } := by
  refine hh.of_cells ?_ rfl rfl rfl
  simp only [State.cellsHeld, CaptureController.openCells, CaptureMemory.currentCells, ho, hb, OpenRecord.withBlock,
    blocksCost_append, blocksCost_cons, blocksCost_nil]
  omega

/-- A stored sweep completes in POST: at its count's end the record closes and the quota path follows (R97 to R100). -/
theorem postAppend_of_stored {o : OpenRecord} {b : Block} (ho : s.capture.openRecord = some o) (hb : s.memory.current = some b) :
    postAppend s =
      if o.postRemaining ≤ 1 then quotaPath (closeRecord false false
        { s with capture.openRecord := some (o.withBlock b), memory.current := none })
      else { s with capture.openRecord := some (o.withBlock b), memory.current := none } := by
  rw [postAppend_of_open ho, hb]
  rfl

theorem cellsOk_postAppend (h : CellsOk rec s) (hpost : s.capture.state = .post) (hstored : s.memory.current.isSome) :
    CellsOk rec (postAppend s) := by
  obtain ⟨o, hquota, hremaining, hcore⟩ := h.core.postCore hpost
  obtain ⟨b, hb⟩ := Option.isSome_iff_exists.mp hstored
  have hjoined := postCore_withBlock hcore hb hremaining
  have hholds := holdings_withBlock hcore.record hb h.holds
  rw [postAppend_of_stored hcore.record hb]
  split
  · exact cellsOk_quotaPath (recordClosed_closeRecord _ _ hjoined hholds)
  · next hmore =>
    refine ⟨.post _ hpost hquota ⟨?_, ?_⟩ hjoined, hholds⟩
    · simp only [OpenRecord.withBlock]
      omega
    · simp only [OpenRecord.withBlock]
      omega

theorem cellsOk_receiveCompleted (v : Verdict) (number : Word) (h : CellsOk rec s)
    (hstored : s.capture.state = .post → s.memory.current.isSome) : CellsOk rec (receiveCompleted v number s) := by
  have opened (cause : Cause) (harmed : s.capture.state.armed = true) : CellsOk rec (openRecord cause number s) :=
    cellsOk_openRecord _ _ (h.core.armedCore harmed) h.holds
  have appended (harmed : s.capture.state.armed = true) : CellsOk rec (historyAppend (stageByVerdict v s)) := by
    have hstaged : CellsOk rec (stageByVerdict v s) := h.of_eq rfl rfl rfl rfl rfl rfl
    exact cellsOk_historyAppend (hstaged.core.armedCore harmed) hstaged.holds
  unfold receiveCompleted
  split
  · next hs => exact cellsOk_discardBlock (.inl hs) h
  · next hs => exact cellsOk_discardBlock (.inr hs) h
  · next hs => exact cellsOk_postAppend h hs (hstored hs)
  · next hs =>
    have harmed : s.capture.state.armed = true := by simp [hs, CaptureState.armed]
    split
    · exact opened _ harmed
    all_goals exact appended harmed
  · next hs =>
    have harmed : s.capture.state.armed = true := by simp [hs, CaptureState.armed]
    split
    · split
      · exact opened _ harmed
      · exact appended harmed
    all_goals exact appended harmed

/-! ## The run after a completed sweep (R23, R97, R108) -/

theorem historyAppend_current (s : State) : (historyAppend s).memory.current = none := by
  unfold historyAppend
  cases hc : s.memory.current <;> simp [hc]

/-- Whatever a completed sweep becomes, no block is left; a record opened or kept open leaves the run going. -/
theorem captureRun_receiveCompleted (v : Verdict) (number : Word)
    (hhalted : s.capture.state = .halted → s.sweeper.run = .stopped ∨ s.sweeper.run = .stopping)
    (hgoes : s.sweeper.run ≠ .stopped) (hsweep : s.sweeper.sweep = none)
    (hpost : s.capture.state = .post → s.capture.openRecord.isSome ∧ s.memory.current.isSome) :
    CaptureRun (receiveCompleted v number s) := by
  have of_none {t : State} (hnone : t.memory.current = none) (ht : t.sweeper.sweep = none) (hrun : t.sweeper.run = s.sweeper.run)
      (hstate : t.capture.state = .halted → s.capture.state = .halted) : CaptureRun t :=
    ⟨fun hs => hrun ▸ hhalted (hstate hs), fun _ => hrun ▸ hgoes, by simp [hnone], by simp [ht]⟩
  have discarded : CaptureRun (discardBlock s) :=
    of_none (discardBlock_current s) (by simpa using hsweep) (by simp) (by simp)
  have opened (cause : Cause) : CaptureRun (openRecord cause number s) :=
    of_none (by simp [(openRecord_parts cause number s).2]) (by simpa using hsweep) (by simp)
      (by simp [(openRecord_state cause number s).1])
  have appended : CaptureRun (historyAppend (stageByVerdict v s)) := by
    have harmed : (historyAppend (stageByVerdict v s)).capture.state.armed = true := by
      unfold historyAppend
      exact armedState_armed _
    exact of_none (historyAppend_current _) (by simpa using hsweep) (by simp)
      fun hs => by simp [hs, CaptureState.armed] at harmed
  unfold receiveCompleted
  split
  · exact discarded
  · exact discarded
  · next hs =>
    obtain ⟨hopen, hstored⟩ := hpost hs
    obtain ⟨o, ho⟩ := Option.isSome_iff_exists.mp hopen
    obtain ⟨b, hb⟩ := Option.isSome_iff_exists.mp hstored
    rw [postAppend_of_stored ho hb]
    split
    · exact captureRun_quotaPath (by simp)
    · exact of_none rfl hsweep rfl id
  · split
    · exact opened _
    all_goals exact appended
  · split
    · split
      · exact opened _
      · exact appended
    all_goals exact appended

/-! ## The block request (R75 to R77) -/

theorem spaceDrops_le (s : State) : s.spaceDrops ≤ s.memory.history.length :=
  (dropWhileShort_spec s.cost s.memory.history s.memory.free).2.2

theorem cellsOk_dropForSpace (harmed : s.capture.state.armed = true) (h : CellsOk rec s) : CellsOk rec (dropForSpace s) := by
  obtain ⟨hstate, hrecord, hreservation, hsize, hcause, hquota, hroom, hblocks⟩ := h.core.armedCore harmed
  have hle := spaceDrops_le s
  rw [dropForSpace_eq]
  refine ⟨.armed ⟨?_, hrecord, hreservation, ?_, hcause, hquota, hroom, fun b hb => hblocks b ?_⟩,
    h.holds.of_cells ?_ rfl rfl rfl⟩
  · simp only [armedState, List.length_drop]
    split
    · next hzero => rw [hstate, hzero, armedState, Nat.sub_zero]
    · rfl
  · simp only [List.length_drop]
    omega
  · rcases List.mem_append.mp hb with hb | hb
    · exact List.mem_append_left _ (List.mem_of_mem_drop hb)
    · exact List.mem_append_right _ hb
  · have hsplit := blocksCost_take_drop s.spaceDrops s.memory.history
    simp only [State.cellsHeld, CaptureMemory.currentCells, CaptureController.openCells]
    omega

theorem dropForSpace_armed (harmed : s.capture.state.armed = true) : (dropForSpace s).capture.state.armed = true := by
  rw [dropForSpace_eq]
  dsimp only
  split
  · exact harmed
  · split <;> rfl

theorem allocated_length (r : SweepRecord) (n : Nat) : (Block.allocated r n).cells.length = n := by simp [Block.allocated]

/-- The block of a sweep is taken from free when it fits there (R75). -/
theorem cellsOk_allocateBlock (r : SweepRecord) (h : CellsOk rec s) (hnone : s.memory.current = none)
    (hfits : s.cost ≤ s.memory.free) : CellsOk rec (allocateBlock r s) := by
  have hcells : (allocateBlock r s).cellsHeld = s.cellsHeld := by
    simp only [State.cost] at hfits
    simp only [State.cellsHeld, allocateBlock, CaptureMemory.currentCells, CaptureController.openCells, hnone, Block.cost,
      allocated_length, State.cost]
    omega
  refine ⟨?_, h.holds.of_cells hcells rfl rfl rfl⟩
  cases h.core with
  | rest state cause core =>
    obtain ⟨hrecord, hreservation, hhistory, hroom, -⟩ := core
    exact .rest state cause ⟨hrecord, hreservation, hhistory, hroom, fun b hb => Option.some.inj hb ▸ allocated_length _ _⟩
  | armed core =>
    obtain ⟨hstate, hrecord, hreservation, hsize, hcause, hquota, hroom, hblocks⟩ := core
    refine .armed ⟨hstate, hrecord, hreservation, hsize, hcause, hquota, hroom, fun b hb => ?_⟩
    rcases List.mem_append.mp hb with hb | hb
    · exact hblocks b (List.mem_append_left _ hb)
    · rw [← Option.some.inj (Option.mem_toList.mp hb)]
      exact allocated_length _ _
  | post o state quota remaining core =>
    obtain ⟨hrecord, hreservation, hhistory, hcause, hroom, -, hsize, hblocks, hcount⟩ := core
    exact .post o state quota remaining ⟨hrecord, hreservation, hhistory, hcause, hroom,
      fun b hb => Option.some.inj hb ▸ allocated_length _ _, hsize, hblocks, hcount⟩

/-- The answer to a block request keeps the cells, and leaves a block in POST unless the record was closed for want of
space, with the run halted (R77, R103). -/
theorem cellsOk_blockRequest (r : SweepRecord) (h : CellsOk rec s) (hnone : s.memory.current = none)
    (hsweep : s.sweeper.sweep.isSome) (hstate : s.capture.state ≠ .halted) (hgoes : s.sweeper.run ≠ .stopped) :
    CellsOk rec (blockRequest r s) ∧ CaptureRun (blockRequest r s) := by
  have armedRun {t : State} (harmed : t.capture.state.armed = true) (ht : t.sweeper = s.sweeper) : CaptureRun t :=
    ⟨fun hs => by simp [hs, CaptureState.armed] at harmed, fun hs => absurd hs (ne_post_of_armed harmed),
      fun _ => by rw [ht]; exact hsweep, fun hs => absurd hs (ne_post_of_armed harmed)⟩
  have armed (harmed : s.capture.state.armed = true) :
      CellsOk rec (if s.cost ≤ (dropForSpace s).memory.free then allocateBlock r (dropForSpace s)
        else countUnstored (dropForSpace s)) ∧
      CaptureRun (if s.cost ≤ (dropForSpace s).memory.free then allocateBlock r (dropForSpace s)
        else countUnstored (dropForSpace s)) := by
    have hdropped := cellsOk_dropForSpace harmed h
    have harmed := dropForSpace_armed harmed
    split
    · next hfits =>
      exact ⟨cellsOk_allocateBlock r hdropped (by simpa using hnone) (by simpa [State.cost] using hfits),
        armedRun harmed (by simp)⟩
    · exact ⟨hdropped.of_eq rfl rfl rfl rfl rfl rfl, armedRun harmed (by simp)⟩
  unfold blockRequest
  split
  · next hs => exact ⟨h, by simp [hs], by simp [hs], by simp [hnone], by simp [hs]⟩
  · next hs => exact absurd hs hstate
  · next hs => exact armed (by simp [hs, CaptureState.armed])
  · next hs => exact armed (by simp [hs, CaptureState.armed])
  · next hpost =>
    split
    · next hfits =>
      exact ⟨cellsOk_allocateBlock r h hnone hfits, by simp [allocateBlock, hpost], fun _ => hgoes, fun _ => hsweep,
        fun _ _ => rfl⟩
    · obtain ⟨o, -, -, hcore⟩ := h.core.postCore hpost
      have hclosed : RecordClosed rec (closeRecord true false (countUnstored s)) := by
        obtain ⟨h1, h2, h3, h4, h5, h6, h7, h8, h9⟩ := hcore
        exact recordClosed_closeRecord (s := countUnstored s) true false ⟨h1, h2, h3, h4, h5, h6, h7, h8, h9⟩
          (h.holds.of_eq rfl rfl rfl rfl rfl)
      exact ⟨cellsOk_enterHalted (by simp) hclosed, captureRun_enterHalted _ (by simp [hnone])⟩

end

end Sys2Proof.Machine
end

section
/-! PROOFS. Sweeps, runs and the requests keep every cell in one holding (01, 04, 05): part of O12. -/

namespace Sys2Proof.Machine

/-- Capture, its cells, and what capture promises of the run. -/
structure CellsInv (rec : Prop) (s : State) : Prop where
  cells : CellsOk rec s
  run : CaptureRun s

section
variable {s : State} {rec : Prop}

theorem CaptureRun.of_eq {t : State} (h : CaptureRun s) (hstate : t.capture.state = s.capture.state)
    (hcurrent : t.memory.current.isSome = s.memory.current.isSome) (hrun : t.sweeper.run = s.sweeper.run)
    (hsweep : t.sweeper.sweep = s.sweeper.sweep) : CaptureRun t := by
  obtain ⟨h1, h2, h3, h4⟩ := h
  rw [← hstate] at h1 h2 h4
  rw [← hrun] at h1 h2
  rw [← hsweep, ← hcurrent] at h3 h4
  exact ⟨h1, h2, h3, h4⟩

theorem CellsInv.of_eq {t : State} (h : CellsInv rec s) (hcapture : t.capture = s.capture) (hmemory : t.memory = s.memory)
    (hqueue : t.delivery.queue = s.delivery.queue) (hposition : t.delivery.position = s.delivery.position)
    (hparams : t.params = s.params) (hfixed : t.sweeper.fixedS = s.sweeper.fixedS) (hrun : t.sweeper.run = s.sweeper.run)
    (hsweep : t.sweeper.sweep = s.sweeper.sweep) : CellsInv rec t :=
  ⟨h.cells.of_eq hcapture hmemory hqueue hposition hparams hfixed,
    h.run.of_eq (by rw [hcapture]) (by rw [hmemory]) hrun hsweep⟩

/-- While capture neither is halted nor has a record open, the run may change as it likes. -/
theorem CaptureRun.of_no_demand (hhalted : s.capture.state ≠ .halted) (hpost : s.capture.state ≠ .post)
    (hblock : s.memory.current.isSome → s.sweeper.sweep.isSome) : CaptureRun s :=
  ⟨fun hs => absurd hs hhalted, fun hs => absurd hs hpost, hblock, fun hs => absurd hs hpost⟩

/-! ## The sweep completion (R11, R12) -/

theorem runAfterCompletion_run_of_stopping (h : s.sweeper.run = .stopping) :
    (runAfterCompletion s).sweeper.run = .stopped := by
  simp [runAfterCompletion, h, endRun]

/-- A run that is not STOPPING stays as it is at a completion, or a burst that is over waits for the line. -/
theorem runAfterCompletion_run (h : s.sweeper.run ≠ .stopping) :
    (runAfterCompletion s).sweeper.run = s.sweeper.run ∨
      (s.sweeper.run = .burst ∧ (runAfterCompletion s).sweeper.run = .waitingLine) := by
  unfold runAfterCompletion
  split
  · next hs => exact absurd hs h
  · next hs =>
    split
    · exact .inr ⟨hs, rfl⟩
    · exact .inl rfl
  all_goals exact .inl rfl

theorem captureRun_runAfterCompletion (h : CaptureRun s) (hrun : s.sweeper.run ≠ .stopping) :
    CaptureRun (runAfterCompletion s) := by
  rcases runAfterCompletion_run hrun with hsame | ⟨hburst, hwaits⟩
  · exact h.of_eq (by simp) (by simp) hsame (by simp)
  · refine ⟨fun hs => ?_, fun _ => by simp [hwaits], by simpa using h.block, by simpa using h.postStored⟩
    rcases h.haltedRun (by simpa using hs) with hr | hr <;> simp [hburst] at hr

theorem cellsInv_judgeSweep (number : Word) (h : CellsInv rec s) (hsweep : s.sweeper.sweep.isSome)
    (hgoes : s.sweeper.run ≠ .stopped) : CellsInv rec (judgeSweep number { s with sweeper.sweep := none }) := by
  obtain ⟨hcells, hrun⟩ := h
  have received (u : State) (hcapture : u.capture = s.capture) (hmemory : u.memory = s.memory)
      (hdelivery : u.delivery = s.delivery) (hparams : u.params = s.params)
      (hsweeper : u.sweeper = { s.sweeper with sweep := none }) (v : Verdict) : CellsInv rec (receiveCompleted v number u) := by
    have hu : CellsOk rec u :=
      hcells.of_eq hcapture hmemory (by rw [hdelivery]) (by rw [hdelivery]) hparams (by rw [hsweeper])
    have hstored (hpost : u.capture.state = .post) : u.memory.current.isSome := by
      rw [hmemory]
      exact hrun.postStored (hcapture ▸ hpost) hsweep
    refine ⟨cellsOk_receiveCompleted v number hu hstored, captureRun_receiveCompleted v number ?_ ?_ ?_ fun hpost => ?_⟩
    · rw [hcapture, hsweeper]
      exact hrun.haltedRun
    · rw [hsweeper]
      exact hgoes
    · rw [hsweeper]
    · obtain ⟨o, -, -, hcore⟩ := hu.core.postCore hpost
      exact ⟨by simp [hcore.record], hstored hpost⟩
  rw [judgeSweep_eq]
  split
  · exact received { s with sweeper.sweep := none, trigger.forced := false } rfl rfl rfl rfl rfl _
  · exact received { s with sweeper.sweep := none } rfl rfl rfl rfl rfl _

theorem cellsInv_sweepCompletion {r : SweepRecord} (h : CellsInv rec s) (hsweep : s.sweeper.sweep.isSome)
    (hgoes : s.sweeper.run ≠ .stopped) : CellsInv rec (sweepCompletion r s) := by
  have hjudged := cellsInv_judgeSweep r.number h hsweep hgoes
  have hafter : CellsOk rec (runAfterCompletion (judgeSweep r.number { s with sweeper.sweep := none })) :=
    hjudged.cells.of_eq (by simp) (by simp) (by simp) (by simp) (by simp) (by simp)
  by_cases hrun : (judgeSweep r.number { s with sweeper.sweep := none }).sweeper.run = .stopping
  · rw [sweepCompletion_of_stopping hrun]
    exact ⟨cellsOk_runEndReport hafter,
      captureRun_runEndReport (fun _ => .inl (runAfterCompletion_run_of_stopping hrun)) (by simpa using hjudged.run.block)⟩
  · rw [sweepCompletion_of_not_stopping hrun]
    exact ⟨hafter, captureRun_runAfterCompletion hjudged.run hrun⟩

/-- No sweep is in progress when the run is STOPPED (R6). -/
def StoppedIdle (c : SweepController) : Prop := c.run = .stopped → c.sweep = none

theorem SweeperInv.stoppedIdle {c : SweepController} {d : Deferred} (h : SweeperInv c d) : StoppedIdle c :=
  fun hs => h.noSweep (.inl hs)

theorem cellsInv_checkCompletion (h : CellsInv rec s) (hidle : StoppedIdle s.sweeper) :
    CellsInv rec (checkCompletion s) := by
  unfold checkCompletion
  split
  · next r hr =>
    split
    · exact cellsInv_sweepCompletion h (by simp [hr]) fun hs => by simp [hidle hs] at hr
    · exact h
  · exact h

/-! ## Samples (R42 to R44, R79) -/

/-- A sample goes into its cell: the block keeps its size. -/
theorem storeSample_memory (x : Sample) (s : State) :
    ∃ g : Block → Block, (∀ b, (g b).cells.length = b.cells.length) ∧
      (storeSample x s).memory = { s.memory with current := s.memory.current.map g } := by
  unfold storeSample
  split
  · refine ⟨fun b => { b with cells := b.cells.set (s.cellPlace x.index) (some x) }, fun b => by simp, ?_⟩
    cases hc : s.memory.current with
    | none => exact congrArg (fun c => { s.memory with current := c }) hc
    | some b => simp
  · exact ⟨id, fun _ => rfl, by simp⟩

theorem cellsInv_of_currentMap {t : State} {g : Block → Block} (h : CellsInv rec s)
    (hg : ∀ b, (g b).cells.length = b.cells.length) (hmemory : t.memory = { s.memory with current := s.memory.current.map g })
    (hcapture : t.capture = s.capture) (hdelivery : t.delivery = s.delivery) (hparams : t.params = s.params)
    (hsweeper : t.sweeper = s.sweeper) : CellsInv rec t := by
  obtain ⟨⟨hcore, hh⟩, hrun⟩ := h
  have hsize {b : Block} (hb : t.memory.current = some b) : ∃ x, s.memory.current = some x ∧ b.cells.length = x.cells.length := by
    rw [hmemory] at hb
    obtain ⟨x, hx, rfl⟩ := Option.map_eq_some_iff.mp hb
    exact ⟨x, hx, hg x⟩
  have hcurrent : t.memory.currentCells = s.memory.currentCells := by
    rw [hmemory]
    unfold CaptureMemory.currentCells
    cases s.memory.current <;> simp [Block.cost, hg]
  refine ⟨⟨?_, hh.of_cells ?_ (by rw [hdelivery]) (by rw [hdelivery]) hparams⟩,
    hrun.of_eq (by rw [hcapture]) (by simp [hmemory]) (by rw [hsweeper]) (by rw [hsweeper])⟩
  · have hblock (hsame : ∀ b, s.memory.current = some b → b.cells.length = s.sweeper.fixedS) (b : Block)
        (hb : t.memory.current = some b) : b.cells.length = t.sweeper.fixedS := by
      obtain ⟨x, hx, hlen⟩ := hsize hb
      rw [hsweeper, hlen]
      exact hsame x hx
    cases hcore with
    | rest state cause core =>
      obtain ⟨h1, h2, h3, h4, h5⟩ := core
      exact .rest (hcapture ▸ state) (hcapture ▸ cause) ⟨hcapture ▸ h1, by rw [hmemory]; exact h2, by rw [hmemory]; exact h3,
        hdelivery ▸ h4, hblock h5⟩
    | armed core =>
      obtain ⟨h1, h2, h3, h4, h5, h6, h7, h8⟩ := core
      refine .armed ⟨?_, hcapture ▸ h2, by rw [hmemory]; exact h3, by rw [hmemory, hparams]; exact h4, hcapture ▸ h5,
        hcapture ▸ h6, hdelivery ▸ h7, fun b hb => ?_⟩
      · rw [hcapture, h1, armedState, armedState, hmemory, hparams]
      · rcases List.mem_append.mp hb with hb | hb
        · rw [hmemory] at hb
          rw [hsweeper]
          exact h8 b (List.mem_append_left _ hb)
        · exact hblock (fun x hx => h8 x (by simp [hx])) b (Option.mem_toList.mp hb)
    | post o state quota remaining core =>
      obtain ⟨h1, h2, h3, h4, h5, h6, h7, h8, h9⟩ := core
      exact .post o (hcapture ▸ state) (hcapture ▸ quota) (hparams ▸ remaining) ⟨hcapture ▸ h1, by rw [hmemory]; exact h2,
        by rw [hmemory]; exact h3, hcapture ▸ h4, hdelivery ▸ h5, hblock h6, hsweeper ▸ h7, h8, hparams ▸ h9⟩
  · simp only [State.cellsHeld, hcurrent, CaptureController.openCells, DeliveryUnit.queuedCells, hcapture, hdelivery]
    simp only [hmemory]

theorem cellsInv_handSample (x : Sample) (h : CellsInv rec s) : CellsInv rec (handSample x s) := by
  obtain ⟨g, hg, hmemory⟩ := storeSample_memory x s
  exact cellsInv_of_currentMap h hg (by simpa [handSample] using hmemory) (by simp) (by simp) (by simp) (by simp)

theorem cellsInv_issueTest (h : CellsInv rec s) : CellsInv rec (issueTest s) :=
  h.of_eq (by simp) (by simp) (by simp) (by simp) (by simp) (by simp) (by simp) (by simp)

theorem cellsInv_completeRequest (e : InFlight) (content : Content) (x : TagState) (h : CellsInv rec s)
    (hidle : StoppedIdle s.sweeper) : CellsInv rec (completeRequest e content x s) := by
  have hsample := cellsInv_handSample (e.sample content) h
  refine cellsInv_issueTest (cellsInv_checkCompletion ?_ (by simpa using hidle))
  exact hsample.of_eq (by simp) (by simp) (by simp) (by simp) (by simp) (by simp) (by simp) (by simp)

theorem cellsInv_fillRest (h : CellsInv rec s) (hidle : StoppedIdle s.sweeper) : CellsInv rec (fillRest s) := by
  refine cellsInv_checkCompletion ?_ (by simpa using hidle)
  refine linkFill_of (P := CellsInv rec) (fun u i _ hu => ?_) _ s h
  exact (cellsInv_handSample _ hu).of_eq rfl rfl rfl rfl rfl rfl rfl rfl

theorem cellsInv_withdrawConverts (h : CellsInv rec s) : CellsInv rec (withdrawConverts s) := by
  have entry (u : State) (f : ConvertFrame) (hu : CellsInv rec u) : CellsInv rec (withdrawEntry u f) := by
    unfold withdrawEntry
    split
    · exact (cellsInv_handSample _ hu).of_eq rfl rfl rfl rfl rfl rfl rfl rfl
    · exact hu
  have all (l : List ConvertFrame) : ∀ u : State, CellsInv rec u → CellsInv rec (l.foldl withdrawEntry u) := by
    induction l with
    | nil => exact fun u hu => hu
    | cons f l ih => exact fun u hu => ih _ (entry u f hu)
  exact (all s.tracker.converts s h).of_eq rfl rfl rfl rfl rfl rfl rfl rfl

theorem cellsInv_timedReply (f : SampleFrame) (e : InFlight) (h : CellsInv rec s) (hidle : StoppedIdle s.sweeper) :
    CellsInv rec (timedReply f e s) := by
  unfold timedReply
  split
  · exact cellsInv_completeRequest _ _ _ h hidle
  · exact cellsInv_completeRequest _ _ _ (h.of_eq rfl rfl rfl rfl rfl rfl rfl rfl) hidle

theorem cellsInv_matchReply (f : SampleFrame) (h : CellsInv rec s) (hidle : StoppedIdle s.sweeper) :
    CellsInv rec (matchReply f s) := by
  unfold matchReply
  split
  · exact cellsInv_issueTest (h.of_eq rfl rfl rfl rfl rfl rfl rfl rfl)
  · split
    · split
      · exact cellsInv_timedReply _ _ h hidle
      · exact h.of_eq rfl rfl rfl rfl rfl rfl rfl rfl
    · exact h.of_eq rfl rfl rfl rfl rfl rfl rfl rfl
  · exact h.of_eq rfl rfl rfl rfl rfl rfl rfl rfl
  · exact h.of_eq rfl rfl rfl rfl rfl rfl rfl rfl

theorem cellsInv_requestTimesOut (t : Nat) (h : CellsInv rec s) (hidle : StoppedIdle s.sweeper) :
    CellsInv rec (requestTimesOut t s) := by
  unfold requestTimesOut
  split
  · split
    · exact cellsInv_completeRequest _ _ _ (h.of_eq rfl rfl rfl rfl rfl rfl rfl rfl) hidle
    · exact h
  · exact h

/-! ## The sweep start (R10) -/

/-- The limit may make a run STOPPING and takes a pacer, no more (R19). -/
theorem captureRun_applyLimit (h : CaptureRun s) : CaptureRun (applyLimit s) := by
  rw [applyLimit_eq]
  split
  · split
    · exact ⟨fun _ => .inr rfl, fun _ => by simp [beginStopping], h.block, h.postStored⟩
    · exact h.of_eq rfl rfl rfl rfl
  · exact h

/-- A sweep does not start while capture is HALTED, and finds no block of an earlier sweep (R23, R75). -/
theorem cellsInv_sweepStart (h : CellsInv rec s) (hready : SweepReady s.sweeper s.manager.deferred) :
    CellsInv rec (sweepStart s) := by
  obtain ⟨hcells, hrun⟩ := h
  have hnone : s.memory.current = none := Option.not_isSome_iff_eq_none.mp fun hc => by
    simpa [hready.noSweep] using hrun.block hc
  have hgoes : s.sweeper.run ≠ .stopped ∧ s.sweeper.run ≠ .stopping := by
    rcases hready.goes with hr | hr <;> simp [hr]
  have hstate : s.capture.state ≠ .halted := fun hs => (hrun.haltedRun hs).elim hgoes.1 hgoes.2
  obtain ⟨hblock, hblockRun⟩ := cellsOk_blockRequest s.startingSweep (s := markStarted s)
    (hcells.of_eq rfl rfl rfl rfl rfl rfl) hnone rfl hstate hgoes.1
  obtain ⟨hsweeper, -⟩ := sweeperInv_beforeIssuing hready
  have hlimited : CellsInv rec (applyLimit (triggerSweepStart (blockRequest s.startingSweep (markStarted s)))) :=
    ⟨hblock.of_eq (by simp) (by simp) (by simp) (by simp) (by simp) (by simp),
      captureRun_applyLimit (hblockRun.of_eq rfl rfl rfl rfl)⟩
  unfold sweepStart beginIssuing
  dsimp only
  split
  · exact cellsInv_issueTest (hlimited.of_eq rfl rfl rfl rfl rfl rfl rfl rfl)
  · exact cellsInv_fillRest (hlimited.of_eq rfl rfl rfl rfl rfl rfl rfl rfl) hsweeper.stoppedIdle

theorem cellsInv_pacerEvent (h : CellsInv rec s)
    (hready : s.sweeper.sweep = none → SweepReady s.sweeper s.manager.deferred) : CellsInv rec (pacerEvent s) := by
  unfold pacerEvent
  split
  · exact h.of_eq rfl rfl rfl rfl rfl rfl rfl rfl
  · next hs => exact cellsInv_sweepStart h (hready (Option.not_isSome_iff_eq_none.mp hs))

theorem cellsInv_pacerExpires (h : CellsInv rec s) (hrun : RunInv s) : CellsInv rec (pacerExpires s) := by
  unfold pacerExpires
  split
  · next hr =>
    exact cellsInv_pacerEvent (h.of_eq rfl rfl rfl rfl rfl rfl rfl rfl)
      fun hnone => hrun.sweeper.ready_of_running hr hnone _
  · next hr =>
    exact cellsInv_pacerEvent (h.of_eq rfl rfl rfl rfl rfl rfl rfl rfl)
      fun hnone => hrun.sweeper.ready_of_burst hr hnone _ _
  all_goals exact h

theorem cellsInv_startLineLevel (level : Bool) (h : CellsInv rec s) (hrun : RunInv s) :
    CellsInv rec (startLineLevel level s) := by
  have hlevel : CellsInv rec { s with sweeper.startLevel := level } := h.of_eq rfl rfl rfl rfl rfl rfl rfl rfl
  unfold startLineLevel
  split
  · exact h
  · dsimp only
    split
    · unfold startEdgeSeen
      split
      · next hr =>
        have hwaits : s.sweeper.run = .waitingLine := hr
        refine cellsInv_sweepStart ⟨hlevel.cells.of_eq rfl rfl rfl rfl rfl rfl, ⟨fun hs => ?_, fun _ => by simp, ?_, ?_⟩⟩
          (hrun.sweeper.ready_of_line hr level _ _)
        · rcases h.run.haltedRun hs with hh | hh <;> simp [hwaits] at hh
        · exact h.run.block
        · exact h.run.postStored
      · exact hlevel.of_eq rfl rfl rfl rfl rfl rfl rfl rfl
      · exact hlevel.of_eq rfl rfl rfl rfl rfl rfl rfl rfl
      all_goals exact hlevel
    · exact hlevel

/-! ## START_RUN and STOP_RUN (R8, R9, R21) -/

/-- START_RUN empties the history and fixes S anew; the run was STOPPED, so no record is open (R3, R9, R109). -/
theorem cellsOk_prepareRun (h : CellsInv rec s) (hstopped : s.sweeper.run = .stopped) (hnone : s.memory.current = none) :
    CellsOk rec (prepareRun s) ∧ ((prepareRun s).capture.state = .halted → s.capture.state = .halted) ∧
      (prepareRun s).capture.state ≠ .post ∧ (prepareRun s).memory.current = none := by
  obtain ⟨⟨hcore, hh⟩, hrun⟩ := h
  have hcells : (prepareRun s).cellsHeld = s.cellsHeld := by
    simp only [prepareRun_eq, State.cellsHeld, blocksCost_nil, CaptureMemory.currentCells, CaptureController.openCells]
    omega
  have hholds : Holdings rec (prepareRun s) := hh.of_cells hcells (by simp) (by simp) (by simp)
  have hcurrent : (prepareRun s).memory.current = none := by
    rw [prepareRun_eq]
    exact hnone
  cases hcore with
  | rest state cause core =>
    obtain ⟨hrecord, hreservation, -, hroom, -⟩ := core
    have hnot : ¬ (s.capture.state = .filling ∨ s.capture.state = .ready) := by rcases state with hs | hs <;> simp [hs]
    have hcapture : (prepareRun s).capture = s.capture := by simp only [prepareRun_eq, if_neg hnot]
    refine ⟨⟨.rest (hcapture ▸ state) (hcapture ▸ cause) ⟨hcapture ▸ hrecord, ?_, ?_, by simpa using hroom,
      by simp [hnone]⟩, hholds⟩, hcapture ▸ id, ?_, hcurrent⟩
    · rw [prepareRun_eq]
      exact hreservation
    · rw [prepareRun_eq]
    · rw [hcapture]
      rcases state with hs | hs <;> simp [hs]
  | armed core =>
    have harmed := CaptureState.armed_iff.mp core.armed
    obtain ⟨-, hrecord, hreservation, -, hcause, hquota, hroom, -⟩ := core
    have hstate : (prepareRun s).capture.state = armedState (prepareRun s) := by
      rw [armedState_of_no_history (by rw [prepareRun_eq]), prepareRun_eq]
      exact if_pos harmed
    have hset : (prepareRun s).capture.state.armed = true := hstate ▸ armedState_armed _
    have hhistory : (prepareRun s).memory.history = [] := by rw [prepareRun_eq]
    refine ⟨⟨.armed ⟨hstate, ?_, ?_, by simp [hhistory], ?_, ?_, by simpa using hroom, by simp [hhistory, hnone]⟩,
      hholds⟩, fun hs => by simp [hs, CaptureState.armed] at hset, ne_post_of_armed hset, hcurrent⟩
    all_goals rw [prepareRun_eq]
    · exact hrecord
    · exact hreservation
    · exact hcause
    · exact hquota
  | post o state => exact absurd hstopped (hrun.postRun state)

theorem cellsInv_startRunBody (lines : Lines) (r : Request) (h : CellsInv rec s) (hrunInv : RunInv s) :
    CellsInv rec (startRunBody lines r s) := by
  unfold startRunBody
  split
  · split
    · exact h.of_eq rfl rfl rfl rfl rfl rfl rfl rfl
    · next hchecked =>
      split
      · exact h.of_eq rfl rfl rfl rfl rfl rfl rfl rfl
      · obtain ⟨hstopped, hnotHalted⟩ := not_or.mp hchecked
        have hstopped : s.sweeper.run = .stopped := not_not.mp hstopped
        have hidle : s.sweeper.sweep = none := hrunInv.noSweep (.inl hstopped)
        have hnone : s.memory.current = none := Option.not_isSome_iff_eq_none.mp fun hc => by
          simpa [hidle] using h.run.block hc
        obtain ⟨hcells, hhalted, hpost, hcurrent⟩ := cellsOk_prepareRun (s := seeLines lines s)
          (h.of_eq rfl rfl rfl rfl rfl rfl rfl rfl) hstopped hnone
        have free {u : State} (hcapture : u.capture = (prepareRun (seeLines lines s)).capture)
            (hmemory : u.memory = (prepareRun (seeLines lines s)).memory) : CaptureRun u := by
          refine .of_no_demand ?_ ?_ ?_
          · rw [hcapture]
            exact fun hs => hnotHalted (hhalted hs)
          · rw [hcapture]
            exact hpost
          · rw [hmemory, hcurrent]
            simp
        have hprepared : (prepareRun (seeLines lines s)).sweeper.run = .stopped ∧
            (prepareRun (seeLines lines s)).sweeper.sweep = none ∧
            (prepareRun (seeLines lines s)).manager.deferred = s.manager.deferred := by
          rw [prepareRun_eq]
          exact ⟨hstopped, hidle, rfl⟩
        obtain ⟨hpreparedRun, hpreparedSweep, hpreparedDeferred⟩ := hprepared
        have hentered : CellsInv rec (enterRun (prepareRun (seeLines lines s))) := by
          unfold enterRun
          split
          · refine cellsInv_sweepStart ⟨hcells.of_eq rfl rfl rfl rfl rfl rfl, free rfl rfl⟩ ⟨.inl rfl, hpreparedSweep,
              fun _ => rfl, fun hb => by simp at hb, ?_⟩
            simp only [hpreparedDeferred]
            exact hrunInv.sweeper.no_deferred (by simp [hstopped])
          · exact ⟨hcells.of_eq rfl rfl rfl rfl rfl rfl, free rfl rfl⟩
        exact hentered.of_eq rfl rfl rfl rfl rfl rfl rfl rfl
  · exact h.of_eq rfl rfl rfl rfl rfl rfl rfl rfl

/-- A run that ends at once closes the record that is open (R21, R108). -/
theorem cellsInv_endAtOnce (cause : EndCause) (h : CellsInv rec s) : CellsInv rec (runEndReport (endRun cause s)) := by
  have hended : CellsOk rec (endRun cause s) := h.cells.of_eq (by simp) (by simp) (by simp) (by simp) (by simp) (by simp)
  exact ⟨cellsOk_runEndReport hended, captureRun_runEndReport (fun _ => .inl (by simp [endRun])) (by simpa using h.run.block)⟩

theorem cellsInv_stopRunBody (r : Request) (h : CellsInv rec s) : CellsInv rec (stopRunBody r s) := by
  have hstopping : CellsInv rec (beginStopping .stopRequest s) :=
    ⟨h.cells.of_eq rfl rfl rfl rfl rfl rfl, fun _ => .inr rfl, fun _ => by simp [beginStopping], h.run.block,
      h.run.postStored⟩
  have deferred (stop : State → State) (hstop : CellsInv rec (stop s)) : CellsInv rec (deferStop r stop s) := by
    unfold deferStop
    split
    · exact hstop.of_eq rfl rfl rfl rfl rfl rfl rfl rfl
    all_goals exact h.of_eq rfl rfl rfl rfl rfl rfl rfl rfl
  have hended := cellsInv_endAtOnce .stopRequest h
  unfold stopRunBody
  (repeat' split)
  · exact h.of_eq rfl rfl rfl rfl rfl rfl rfl rfl
  · exact hended.of_eq rfl rfl rfl rfl rfl rfl rfl rfl
  · exact deferred _ hstopping
  · exact hended.of_eq rfl rfl rfl rfl rfl rfl rfl rfl
  · exact deferred _ hstopping
  · exact hended.of_eq rfl rfl rfl rfl rfl rfl rfl rfl
  · exact deferred _ h
  · exact h.of_eq rfl rfl rfl rfl rfl rfl rfl rfl

/-! ## SET_PARAMETER (R155) -/

/-- The sizes of a record are written in IDLE only, where no history and no record depends on them. -/
theorem cellsInv_putParams {p : Param} {v : Word} {ps : Params} (h : CellsInv rec s) (hwritten : p.writtenWhile s)
    (hset : s.params.set p v = some ps) : CellsInv rec (putParams p ps s) := by
  obtain ⟨⟨hcore, hh⟩, hrun⟩ := h
  obtain ⟨-, -, hother⟩ := Params.set_eq_some hset
  have hparams : ParamsInv (putParams p ps s) := (hh.params.set hset).of_params (by simp [putParams_params])
  refine ⟨⟨?_, ?_⟩, hrun.of_eq (by simp) (by simp) (by simp) (by simp)⟩
  · by_cases hidle : s.capture.state = .idle
    · obtain ⟨hrest, hcause⟩ := hcore.restCore (.inl hidle)
      exact .rest (.inl (by simpa using hidle)) (by simpa using hcause)
        (hrest.of_eq (by simp) (by simp) (by simp) (by simp))
    · have hpre : ps.pretriggerSweeps = s.params.pretriggerSweeps :=
        hother .pretriggerSweeps fun hp => hidle (by subst hp; exact hwritten)
      have hpost : ps.posttriggerSweeps = s.params.posttriggerSweeps :=
        hother .posttriggerSweeps fun hp => hidle (by subst hp; exact hwritten)
      exact hcore.of_eq (by simp) (by simp) (by simp) (by simpa [putParams_params] using hpre)
        (by simpa [putParams_params] using hpost) (by simp)
  · have hcells : (putParams p ps s).cellsHeld = s.cellsHeld := cellsHeld_congr (by simp) (by simp) (by simp)
    exact ⟨hcells.trans hh.store, fun hr => (hh.records hr).of_eq (by simp) (by simp), by simpa using hh.position, hparams⟩

theorem cellsInv_setParameterBody (r : Request) (h : CellsInv rec s) : CellsInv rec (setParameterBody r s) := by
  unfold setParameterBody
  split
  · split
    · exact h.of_eq rfl rfl rfl rfl rfl rfl rfl rfl
    · split
      · next hw =>
        split
        · exact h.of_eq rfl rfl rfl rfl rfl rfl rfl rfl
        · next hset =>
          exact (cellsInv_putParams h ((Param.writable_iff _ s).mp hw) hset).of_eq rfl rfl rfl rfl rfl rfl rfl rfl
      · exact h.of_eq rfl rfl rfl rfl rfl rfl rfl rfl
  · exact h.of_eq rfl rfl rfl rfl rfl rfl rfl rfl

/-! ## ARM, DISARM and CLEAR_HALT (R89, R90, R105, R106) -/

theorem CellsOk.recordClosed_of_idle (h : CellsOk rec s) (hs : s.capture.state = .idle) : RecordClosed rec s := by
  obtain ⟨hrest, hcause⟩ := h.core.restCore (.inl hs)
  exact ⟨hrest, hcause.mpr (by simp [hs]), h.holds⟩

theorem cellsInv_armBody (r : Request) (h : CellsInv rec s) : CellsInv rec (armBody r s) := by
  unfold armBody
  split
  · split
    · exact h.of_eq rfl rfl rfl rfl rfl rfl rfl rfl
    · next hidle =>
      have hclosed := h.cells.recordClosed_of_idle (not_not.mp hidle)
      split
      · exact h.of_eq rfl rfl rfl rfl rfl rfl rfl rfl
      · split
        · exact h.of_eq rfl rfl rfl rfl rfl rfl rfl rfl
        · next hfree =>
          split
          · exact h.of_eq rfl rfl rfl rfl rfl rfl rfl rfl
          · next hroom =>
            have hfree : ¬ s.memory.free < 4 := hfree
            have hroom : ¬ 16 ≤ s.delivery.queue.length := hroom
            have harmed : CellsInv rec (armEffects s) :=
              ⟨cellsOk_armNow (hclosed.of_eq rfl rfl rfl rfl rfl rfl rfl) (Nat.not_lt.mp hfree) (Nat.not_le.mp hroom)
                h.cells.holds.params.captureQuota.1, captureRun_armNow h.run.block⟩
            exact harmed.of_eq rfl rfl rfl rfl rfl rfl rfl rfl
  · exact h.of_eq rfl rfl rfl rfl rfl rfl rfl rfl

/-- DISARM while armed frees the history and the reservation (R106). -/
theorem recordClosed_disarmed (h : CellsOk rec s) (harmed : s.capture.state.armed = true) :
    RecordClosed rec { s with
      memory.free := s.memory.free + blocksCost s.memory.history + s.memory.reservation
      memory.history := []
      memory.reservation := 0 } := by
  obtain ⟨-, hrecord, -, -, hcause, -, hroom, hblocks⟩ := h.core.armedCore harmed
  refine ⟨⟨hrecord, rfl, rfl, Nat.le_of_lt hroom, fun b hb => hblocks b ?_⟩, hcause, h.holds.of_cells ?_ rfl rfl rfl⟩
  · exact List.mem_append_right _ (Option.mem_toList.mpr hb)
  · simp only [State.cellsHeld, blocksCost_nil, CaptureMemory.currentCells, CaptureController.openCells]
    omega

theorem cellsInv_disarmEffects (h : CellsInv rec s) (hhalted : s.capture.state ≠ .halted) :
    CellsInv rec (disarmEffects s) := by
  have idle {t : State} (ht : RecordClosed rec t) (hstate : t.capture.state = .idle)
      (hcurrent : t.memory.current = s.memory.current) (hsweeper : t.sweeper = s.sweeper) : CellsInv rec t :=
    ⟨ht.idle hstate, .of_no_demand (by simp [hstate]) (by simp [hstate]) (by rw [hcurrent, hsweeper]; exact h.run.block)⟩
  cases hs : s.capture.state with
  | idle =>
    rw [disarmEffects_of_idle hs]
    exact h
  | halted => exact absurd hs hhalted
  | filling | ready =>
    have hclosed := recordClosed_disarmed h.cells (by simp [hs, CaptureState.armed])
    rw [disarmEffects_of_armed (by simp [hs])]
    exact idle (hclosed.of_eq rfl rfl rfl rfl rfl rfl rfl) rfl rfl rfl
  | post =>
    obtain ⟨o, -, -, hcore⟩ := h.cells.core.postCore hs
    have hclosed := recordClosed_closeRecord false true hcore h.cells.holds
    rw [disarmEffects_of_post hs]
    exact idle (hclosed.of_eq rfl rfl rfl rfl rfl rfl rfl) rfl (by simp) (by simp)

theorem cellsInv_disarmBody (r : Request) (h : CellsInv rec s) : CellsInv rec (disarmBody r s) := by
  unfold disarmBody
  split
  · split
    · exact h.of_eq rfl rfl rfl rfl rfl rfl rfl rfl
    · next hhalted => exact (cellsInv_disarmEffects h hhalted).of_eq rfl rfl rfl rfl rfl rfl rfl rfl
  · exact h.of_eq rfl rfl rfl rfl rfl rfl rfl rfl

theorem cellsInv_clearHaltBody (r : Request) (h : CellsInv rec s) : CellsInv rec (clearHaltBody r s) := by
  unfold clearHaltBody
  split
  · split
    · next hhalted =>
      obtain ⟨hrest, -⟩ := h.cells.core.restCore (.inr hhalted.1)
      have hclosed : RecordClosed rec { s with capture.state := .idle, capture.haltCause := .none } :=
        ⟨hrest.of_eq rfl rfl rfl rfl, rfl, h.cells.holds.of_eq rfl rfl rfl rfl rfl⟩
      have hcleared : CellsInv rec { s with capture.state := .idle, capture.haltCause := .none } :=
        ⟨hclosed.idle rfl, .of_no_demand (by simp) (by simp) h.run.block⟩
      exact hcleared.of_eq rfl rfl rfl rfl rfl rfl rfl rfl
    · exact h.of_eq rfl rfl rfl rfl rfl rfl rfl rfl
  · exact h.of_eq rfl rfl rfl rfl rfl rfl rfl rfl

/-! ## RESET_ENGINE (R85, R160) -/

/-- The reset effects give the store back to free. -/
theorem cellsInv_resetCompletes (h : CellsInv rec s) : CellsInv rec (resetCompletes s) := by
  unfold resetCompletes
  split
  · split
    · refine ⟨⟨.rest (.inl rfl) (iff_of_true rfl (by simp [respond, resetBlocks, CaptureController.resetEngine]))
        ⟨rfl, rfl, rfl, Nat.zero_le _, fun b hb => ?_⟩, ⟨rfl, fun _ => ⟨fun q hq => ?_, fun q hq => ?_⟩, fun _ => rfl,
          h.cells.holds.params.of_params rfl⟩⟩, .of_no_demand ?_ ?_ ?_⟩
      all_goals
        simp_all [respond, resetBlocks, CaptureMemory.emptied, DeliveryUnit.resetEngine, CaptureController.resetEngine]
    · exact h
  all_goals exact h

/-! ## The intake link (R43, R44, R174) -/

theorem cellsInv_setIntakeLink (l : Link) (h : CellsInv rec s) (hidle : StoppedIdle s.sweeper) :
    CellsInv rec (setIntakeLink l s) := by
  by_cases hdrop : s.intake.link.state = .up ∧ l.state = .down
  · rw [setIntakeLink_of_drop hdrop.1 hdrop.2]
    have filled (u : State) (n : Notice) (hu : CellsInv rec u) (hsweeper : StoppedIdle u.sweeper) :
        CellsInv rec (postNotice n (fillRest (withdrawConverts u))) :=
      (cellsInv_fillRest (cellsInv_withdrawConverts hu) (by simpa using hsweeper)).of_eq (by simp) (by simp) (by simp)
        (by simp) (by simp) (by simp) (by simp) (by simp)
    refine filled _ _ ?_ (by simpa using hidle)
    exact h.of_eq (by simp) (by simp) (by simp) (by simp) (by simp) (by simp) (by simp) (by simp)
  · rw [setIntakeLink_of_no_drop hdrop]
    split
    · exact h.of_eq (by simp) (by simp) (by simp) (by simp) (by simp) (by simp) (by simp) (by simp)
    · exact h.of_eq rfl rfl rfl rfl rfl rfl rfl rfl

end

end Sys2Proof.Machine
end

section
/-! PROOFS. The queued records give their cells back, and every event keeps every cell in one holding (04, 05, 06): O12. -/

namespace Sys2Proof.Machine

section
variable {s : State} {rec : Prop}

/-! ## Cells that leave the Delivery Queue (R74, R118, R124, R125) -/

/-- Cells of the Delivery Queue go to free, and no other holding changes. -/
theorem cellsInv_of_release {t : State} {n : Nat} (h : CellsInv rec s)
    (hmemory : t.memory = { s.memory with free := s.memory.free + n }) (hcapture : t.capture = s.capture)
    (hsweeper : t.sweeper = s.sweeper) (hparams : t.params = s.params)
    (hcells : t.delivery.queuedCells + n = s.delivery.queuedCells)
    (hlength : t.delivery.queue.length ≤ s.delivery.queue.length) (hrecords : RecordsInv s → RecordsInv t)
    (hposition : t.delivery.queue = [] → t.delivery.position = 0) : CellsInv rec t := by
  obtain ⟨⟨hcore, hstore, hrec, -, hrange⟩, hrun⟩ := h
  refine ⟨⟨?_, ?_, fun hr => hrecords (hrec hr), hposition, hrange.of_params hparams⟩,
    hrun.of_eq (by rw [hcapture]) (by rw [hmemory]) (by rw [hsweeper]) (by rw [hsweeper])⟩
  · cases hcore with
    | rest state cause core =>
      obtain ⟨hrecord, hreservation, hhistory, hroom, hblock⟩ := core
      exact .rest (hcapture ▸ state) (hcapture ▸ cause) ⟨hcapture ▸ hrecord, by rw [hmemory]; exact hreservation,
        by rw [hmemory]; exact hhistory, Nat.le_trans hlength hroom, by rw [hmemory, hsweeper]; exact hblock⟩
    | armed core =>
      obtain ⟨hstate, hrecord, hreservation, hsize, hcause, hquota, hroom, hblocks⟩ := core
      refine .armed ⟨?_, hcapture ▸ hrecord, by rw [hmemory]; exact hreservation, by rw [hmemory, hparams]; exact hsize,
        hcapture ▸ hcause, hcapture ▸ hquota, Nat.lt_of_le_of_lt hlength hroom, by rw [hmemory, hsweeper]; exact hblocks⟩
      rw [hcapture, hstate, armedState, armedState, hmemory, hparams]
    | post o state quota remaining core =>
      obtain ⟨hrecord, hreservation, hhistory, hcause, hroom, hblock, hsize, hblocks, hcount⟩ := core
      exact .post o (hcapture ▸ state) (hcapture ▸ quota) (hparams ▸ remaining) ⟨hcapture ▸ hrecord,
        by rw [hmemory]; exact hreservation, by rw [hmemory]; exact hhistory, hcapture ▸ hcause,
        Nat.lt_of_le_of_lt hlength hroom, by rw [hmemory, hsweeper]; exact hblock, hsweeper ▸ hsize, hblocks,
        hparams ▸ hcount⟩
  · rw [storeInv_iff] at hstore ⊢
    simp only [State.cellsHeld, CaptureMemory.currentCells, CaptureController.openCells, hmemory, hcapture] at hstore ⊢
    omega

theorem queuedCells_of_queue {d : DeliveryUnit} {l : List QueuedRecord} (hq : d.queue = l) :
    d.queuedCells = (l.map (·.cells.length)).sum := by rw [DeliveryUnit.queuedCells, hq]

section
variable {t : State} {q : QueuedRecord} {before rest : List QueuedRecord}

/-- The record behind a head that leaves is whole, and none of its cells is sent. -/
theorem RecordsInv.of_headLeft (h : RecordsInv s) (hq : s.delivery.queue = q :: rest) (ht : t.delivery.queue = rest)
    (hp : t.delivery.position = 0) : RecordsInv t := by
  have hwhole (x : QueuedRecord) (hx : x ∈ rest) : x.cells.length = x.header.total := h.waiting x (by simp [hq, hx])
  refine ⟨fun x hx _ => ?_, fun x hx => ?_⟩
  · rw [ht] at hx
    rw [hp]
    exact hwhole x (List.mem_of_mem_head? hx)
  · rw [ht] at hx
    exact hwhole x (List.mem_of_mem_tail hx)

/-- The cells the head record loses to a frame are those the position counts. -/
theorem RecordsInv.of_headSent {n : Nat} (h : RecordsInv s) (hq : s.delivery.queue = q :: rest)
    (ht : t.delivery.queue = { q with cells := q.cells.drop n } :: rest) (hn : n ≤ q.cells.length)
    (hp : t.delivery.position = s.delivery.position + n) : RecordsInv t := by
  refine ⟨fun x hx hd => ?_, fun x hx => h.waiting x (by simpa [ht, hq] using hx)⟩
  simp only [ht, List.head?_cons, Option.some.injEq] at hx
  subst hx
  have hhead := h.head q (by simp [hq]) hd
  simp only [List.length_drop, hp]
  omega

theorem RecordsInv.of_headDiscarded {x : QueuedRecord} (h : RecordsInv s) (hq : s.delivery.queue = q :: rest)
    (ht : t.delivery.queue = x :: rest) (hx : x.discarded = true) : RecordsInv t := by
  refine ⟨fun y hy hd => ?_, fun y hy => h.waiting y (by simpa [ht, hq] using hy)⟩
  simp only [ht, List.head?_cons, Option.some.injEq] at hy
  simp [← hy, hx] at hd

/-- A record leaves from behind the head, or from the head with none of its cells sent. -/
theorem RecordsInv.of_left (h : RecordsInv s) (hq : s.delivery.queue = before ++ q :: rest)
    (ht : t.delivery.queue = before ++ rest) (hp : t.delivery.position = s.delivery.position)
    (hother : before ≠ [] ∨ s.delivery.position = 0) : RecordsInv t := by
  cases before with
  | nil => exact h.of_headLeft hq ht (hp.trans (hother.resolve_left fun hne => hne rfl))
  | cons b bs =>
    refine ⟨fun x hx hd => ?_, fun x hx => h.waiting x ?_⟩
    · rw [hp]
      exact h.head x (by simpa [ht, hq] using hx) hd
    · simp only [ht, hq, List.cons_append, List.tail_cons, List.mem_append, List.mem_cons] at hx ⊢
      exact hx.imp_right .inr

end

/-! ## The end of a record frame (R118, R125) -/

/-- With its frame sent, the head record gives back the frame's cells (R118). -/
theorem cellsInv_payloadFrame {f : RecordFrame} {q : QueuedRecord} {rest : List QueuedRecord} {u : State} (h : CellsInv rec s)
    (hq : s.delivery.queue = q :: rest) (hle : f.payload.length ≤ q.cells.length)
    (hlast : f.last = true ∨ q.discarded = true → f.payload.length = q.cells.length)
    (hmemory : u.memory = { s.memory with free := s.memory.free + f.payload.length }) (hcapture : u.capture = s.capture)
    (hsweeper : u.sweeper = s.sweeper) (hparams : u.params = s.params) (hqueue : u.delivery.queue = s.delivery.queue)
    (hposition : u.delivery.position = s.delivery.position) : CellsInv rec (advanceHead f u) := by
  have hu := hqueue.trans hq
  have release {t : State} (ht : t.memory = u.memory ∧ t.capture = u.capture ∧ t.sweeper = u.sweeper ∧ t.params = u.params)
      (hleft : t.delivery.queuedCells + f.payload.length = s.delivery.queuedCells)
      (hlength : t.delivery.queue.length ≤ s.delivery.queue.length) (hrecords : RecordsInv s → RecordsInv t)
      (hzero : t.delivery.queue = [] → t.delivery.position = 0) : CellsInv rec t := by
    obtain ⟨h1, h2, h3, h4⟩ := ht
    exact cellsInv_of_release h (h1.trans hmemory) (h2.trans hcapture) (h3.trans hsweeper) (h4.trans hparams) hleft hlength
      hrecords hzero
  have left {t : State} (ht : t.memory = u.memory ∧ t.capture = u.capture ∧ t.sweeper = u.sweeper ∧ t.params = u.params)
      (hrest : t.delivery.queue = rest) (hzero : t.delivery.position = 0) (hall : f.payload.length = q.cells.length) :
      CellsInv rec t := by
    refine release ht ?_ (by simp [hrest, hq]) (fun hr => hr.of_headLeft hq hrest hzero) fun _ => hzero
    rw [queuedCells_of_queue hrest, queuedCells_of_queue hq, hall, List.map_cons, List.sum_cons, Nat.add_comm]
  cases hl : f.last with
  | true =>
    rw [advanceHead_of_last hu hl]
    exact left ⟨rfl, rfl, rfl, rfl⟩ rfl rfl (hlast (.inl hl))
  | false =>
    cases hd : q.discarded with
    | true =>
      rw [advanceHead_of_discarded hu hl hd]
      exact left ⟨rfl, rfl, rfl, rfl⟩ rfl rfl (hlast (.inr hd))
    | false =>
      rw [advanceHead_of_not_last hu hl hd]
      refine release ⟨rfl, rfl, rfl, rfl⟩ ?_ (by simp [hq])
        (fun hr => hr.of_headSent hq rfl hle (congrArg (· + f.payload.length) hposition)) (by simp)
      rw [queuedCells_of_queue hq, queuedCells_of_queue rfl, List.map_cons, List.map_cons, List.sum_cons, List.sum_cons,
        List.length_drop]
      omega

theorem cellsInv_completionTests (w : WindowId) (last : Bool) (h : CellsInv rec s) :
    CellsInv rec (completionTests w last s) :=
  h.of_eq (by simp) (by simp) (by simp) (by simp) (by simp) (by simp) (by simp) (by simp)

/-- The end of the frame on the lane keeps every cell in one holding; only a payload moves cells. -/
theorem cellsInv_downFrameEnded (h : CellsInv rec s) (hdelivery : DeliveryInv s) : CellsInv rec (downFrameEnded s) := by
  match hf : s.frameUnderWay with
  | none =>
    rw [downFrameEnded_of_other hf]
    exact h.of_eq rfl rfl rfl rfl rfl rfl rfl rfl
  | some f =>
    rw [downFrameEnded_of_record hf]
    cases ha : f.abandoned with
    | true =>
      rw [recordFrameEnded_of_abandoned ha]
      exact cellsInv_completionTests _ _ (h.of_eq rfl rfl rfl rfl rfl rfl rfl rfl)
    | false =>
      obtain ⟨⟨-, -, -, q, rest, hq, -, -, -, hle, hlast, -, hwhole⟩, -⟩ := hdelivery.frame f hf ha
      rw [recordFrameEnded_of_payload ha]
      exact cellsInv_completionTests _ _ (cellsInv_payloadFrame h hq hle
        (fun hall => hall.elim (fun hl => (hlast hl).1) hwhole) rfl rfl rfl rfl (by simp) (by simp))

theorem cellsInv_recordEnds (h : CellsInv rec s) (hdelivery : DeliveryInv s) : CellsInv rec (recordEnds s) := by
  unfold recordEnds
  split
  · exact cellsInv_downFrameEnded h hdelivery
  all_goals exact h

theorem cellsInv_otherFrameEnds (p : Port) (h : CellsInv rec s) (hdelivery : DeliveryInv s) :
    CellsInv rec (otherFrameEnds p s) := by
  unfold otherFrameEnds
  cases p with
  | intake =>
    dsimp only
    split
    · exact h.of_eq (by simp) (by simp) (by simp) (by simp) (by simp) (by simp) (by simp) (by simp)
    all_goals exact h
  | delivery =>
    dsimp only
    split
    · exact cellsInv_downFrameEnded h hdelivery
    · exact cellsInv_downFrameEnded h hdelivery
    · exact cellsInv_downFrameEnded h hdelivery
    all_goals exact h

/-! ## DISCARD_RECORD (R124, R125) -/

/-- A started head record gives back at once every cell but those of the frame in transmission (R125). -/
theorem cellsInv_discardStartedHead {q : QueuedRecord} {rest : List QueuedRecord} (h : CellsInv rec s)
    (hdelivery : DeliveryInv s) (hq : s.delivery.queue = q :: rest) (hs : s.headStarted = true) :
    CellsInv rec (discardStartedHead q rest s) := by
  match hf : s.frameUnderWay with
  | none =>
    rw [discardStartedHead_of_no_frame q rest s hf]
    refine cellsInv_of_release h rfl rfl rfl rfl ?_ (by simp [hq]) (fun hr => hr.of_headLeft hq rfl rfl) fun _ => rfl
    rw [queuedCells_of_queue hq, queuedCells_of_queue rfl, List.map_cons, List.sum_cons, Nat.add_comm]
  | some f =>
    cases ha : f.abandoned with
    | true =>
      obtain ⟨-, -, hnote, -⟩ := hdelivery.abandoned f hf ha
      rcases (headStarted_iff s).mp hs with hpos | ⟨f', hf', ha'⟩
      · simp [hdelivery.position (.inr hnote)] at hpos
      · rw [hf, Option.some.injEq] at hf'
        simp [← hf', ha] at ha'
    | false =>
      obtain ⟨⟨-, -, -, q', rest', hq', -, -, -, hle, -⟩, -⟩ := hdelivery.frame f hf ha
      obtain ⟨rfl, rfl⟩ : q' = q ∧ rest' = rest := by simpa [hq'] using hq
      cases hl : f.last with
      | true =>
        rw [discardStartedHead_of_last _ _ s hf ha hl]
        exact h
      | false =>
        rw [discardStartedHead_of_not_last _ _ s hf ha hl]
        refine cellsInv_of_release h rfl rfl rfl rfl ?_ (by simp [hq]) (fun hr => hr.of_headDiscarded hq rfl rfl) (by simp)
        rw [queuedCells_of_queue hq, queuedCells_of_queue rfl, List.map_cons, List.map_cons, List.sum_cons, List.sum_cons,
          List.length_take]
        omega

theorem cellsInv_discardById (id : BitVec 16) (h : CellsInv rec s) (hdelivery : DeliveryInv s) :
    CellsInv rec (discardById id s).2 := by
  match hsplit : splitAtId id s.delivery.queue with
  | none =>
    simp only [discardById, hsplit]
    (repeat' split) <;> exact h
  | some (before, q, after) =>
    obtain ⟨hqueue, hid, hbefore⟩ := splitAtId_eq_some hsplit
    by_cases hstarted : before = [] ∧ s.headStarted = true
    · obtain ⟨rfl, hs⟩ := hstarted
      rw [discardById_of_started hqueue hid hs]
      exact cellsInv_discardStartedHead h hdelivery hqueue hs
    · have hother : before ≠ [] ∨ ¬ s.headStarted = true := not_and_or.mp hstarted
      have hunsent : before ≠ [] ∨ s.delivery.position = 0 :=
        hother.imp_right fun hnot => Nat.eq_zero_of_not_pos fun hpos => hnot ((headStarted_iff s).mpr (.inl hpos))
      rw [discardById_of_not_started hqueue hbefore hid hother]
      refine cellsInv_of_release h rfl rfl rfl rfl ?_ ?_ (fun hr => hr.of_left hqueue rfl rfl hunsent) fun hnil => ?_
      · rw [queuedCells_of_queue hqueue, queuedCells_of_queue rfl]
        simp only [List.map_append, List.map_cons, List.sum_append, List.sum_cons]
        omega
      · simp only [hqueue, List.length_append, List.length_cons]
        omega
      · exact hunsent.resolve_left (not_not.mpr (List.append_eq_nil_iff.mp hnil).1)

theorem cellsInv_discardRecordBody (r : Request) (h : CellsInv rec s) (hdelivery : DeliveryInv s) :
    CellsInv rec (discardRecordBody r s) := by
  unfold discardRecordBody
  split
  · split
    · exact (cellsInv_discardById _ h hdelivery).of_eq rfl rfl rfl rfl rfl rfl rfl rfl
    · exact h.of_eq rfl rfl rfl rfl rfl rfl rfl rfl
  · exact h.of_eq rfl rfl rfl rfl rfl rfl rfl rfl

/-! ## The links and the arrivals (R35 to R39, R163, R174, R175) -/

theorem cellsInv_setDeliveryLink (l : Link) (h : CellsInv rec s) (hdelivery : DeliveryInv s) :
    CellsInv rec (setDeliveryLink l s) := by
  by_cases hdrop : s.deliveryPort.link.state = .up ∧ l.state = .down
  · rw [setDeliveryLink_of_drop hdrop.1 hdrop.2]
    have hlinked : CellsInv rec { s with deliveryPort.link := l } := h.of_eq rfl rfl rfl rfl rfl rfl rfl rfl
    exact (cellsInv_downFrameEnded hlinked (hdelivery.of_delivery rfl rfl)).of_eq rfl rfl rfl rfl rfl rfl rfl rfl
  · rw [setDeliveryLink_of_no_drop hdrop]
    exact h.of_eq rfl rfl rfl rfl rfl rfl rfl rfl

/-- The cells with what the events rest on: the run, and the Delivery Unit with its windows. -/
structure CellsAgree (rec : Prop) (s : State) : Prop where
  cells : CellsInv rec s
  run : RunInv s
  delivery : DeliveryInv s

theorem CellsAgree.idleRun (h : CellsAgree rec s) : StoppedIdle s.sweeper := h.run.sweeper.stoppedIdle

theorem CellsAgree.seeLines (h : CellsAgree rec s) (lines : Lines) : CellsAgree rec (seeLines lines s) :=
  ⟨h.cells.of_eq rfl rfl rfl rfl rfl rfl rfl rfl, h.run.of_eq rfl rfl rfl rfl, h.delivery.of_delivery rfl rfl⟩

theorem CellsAgree.popRequest (h : CellsAgree rec s) : CellsAgree rec (popRequest s) :=
  ⟨h.cells.of_eq (by simp) (by simp) (by simp) (by simp) (by simp) (by simp) (by simp) (by simp),
    h.run.of_eq (by simp) rfl (by simp) (by simp), h.delivery.of_delivery (by simp) (by simp)⟩

theorem CellsAgree.setLink (h : CellsAgree rec s) (p : Port) (l : Link) : CellsAgree rec (setLink p l s) := by
  refine ⟨?_, runInv_setLink p l h.run, deliveryInv_setLink p l h.delivery⟩
  cases p with
  | intake => exact cellsInv_setIntakeLink l h.cells h.idleRun
  | delivery => exact cellsInv_setDeliveryLink l h.cells h.delivery

theorem cellsInv_receiveBadFrame (p : Port) (h : CellsAgree rec s) : CellsInv rec (receiveBadFrame p s) := by
  rw [receiveBadFrame_eq]
  split
  · refine (CellsAgree.setLink (s := countBadFrame p s) ⟨?_, ?_, ?_⟩ _ _).cells
    · exact h.cells.of_eq (by simp) (by simp) (by simp) (by simp) (by simp) (by simp) (by simp) (by simp)
    · exact h.run.of_eq (by simp) (by simp) (by simp) (by simp)
    · exact h.delivery.of_delivery (by simp) (by simp)
  · exact (h.setLink _ _).cells

theorem cellsInv_receiveSample (f : SampleFrame) (h : CellsAgree rec s) : CellsInv rec (receiveSample f s) := by
  have hlink := h.setLink .intake (s.link .intake).good
  exact receiveGoodFrame_of hlink.cells fun _ => cellsInv_matchReply f hlink.cells hlink.idleRun

theorem cellsInv_receiveIntakeFrame (f : RawFrame) (h : CellsAgree rec s) : CellsInv rec (receiveIntakeFrame f s) := by
  have hlink := (h.setLink .intake (s.link .intake).good).cells
  unfold receiveIntakeFrame
  split
  · split
    · split
      · exact cellsInv_receiveSample _ h
      · exact cellsInv_receiveBadFrame _ h
    · exact receiveGoodFrame_of hlink fun _ =>
        hlink.of_eq (by simp) (by simp) (by simp) (by simp) (by simp) (by simp) (by simp) (by simp)
  · exact cellsInv_receiveBadFrame _ h

theorem cellsInv_receiveRequest (r : Request) (h : CellsAgree rec s) : CellsInv rec (receiveRequest r s) := by
  have hlink := (h.setLink .delivery (s.link .delivery).good).cells
  unfold receiveRequest
  split
  · exact receiveGoodFrame_of hlink fun _ =>
      hlink.of_eq (by simp) (by simp) (by simp) (by simp) (by simp) (by simp) (by simp) (by simp)
  · exact cellsInv_receiveBadFrame _ h

theorem cellsInv_frameWhileAligning (p : Port) (good : Bool) (h : CellsAgree rec s) :
    CellsInv rec (frameWhileAligning p good s) := by
  unfold frameWhileAligning goodReception badReception
  (repeat' split)
  · exact (h.setLink _ _).cells
  · exact (h.setLink _ _).cells
  · exact h.cells

/-! ## Every command -/

/-- A hard reset leaves every cell free. -/
theorem cellsInv_afterReset (node : BitVec 4) (level : Bool) : CellsInv rec (State.afterReset node level) := by
  have hall := inv_afterReset node level
  exact ⟨⟨hall.capture.core, hall.store, fun _ => hall.records, fun hnil => hall.delivery.position (.inl hnil), hall.params⟩,
    hall.capture.run⟩

theorem cellsInv_effect (c : Instr) (h : CellsAgree rec s) : CellsInv rec (effect c s) := by
  have hpop := h.popRequest
  cases c with
  | startRun lines => exact executeFront_of h.cells fun r _ => cellsInv_startRunBody lines r hpop.cells hpop.run
  | stopRun => exact executeFront_of h.cells fun r _ => cellsInv_stopRunBody r hpop.cells
  | setParameter => exact executeFront_of h.cells fun r _ => cellsInv_setParameterBody r hpop.cells
  | arm => exact executeFront_of h.cells fun r _ => cellsInv_armBody r hpop.cells
  | disarm => exact executeFront_of h.cells fun r _ => cellsInv_disarmBody r hpop.cells
  | clearHalt => exact executeFront_of h.cells fun r _ => cellsInv_clearHaltBody r hpop.cells
  | discardRecord => exact executeFront_of h.cells fun r _ => cellsInv_discardRecordBody r hpop.cells hpop.delivery
  | echo | readStatus | getParameter | writeProgramEntry | readProgramEntry | writeCondition | readCondition | forceTrigger
  | openWindow | closeWindow | readCounters | resetEngine =>
    exact h.cells.of_eq (executeFront_frame (·.capture) (by simp) (by simp))
      (executeFront_frame (·.memory) (by simp) (by simp)) (executeFront_frame (·.delivery.queue) (by simp) (by simp))
      (executeFront_frame (·.delivery.position) (by simp) (by simp)) (executeFront_frame (·.params) (by simp) (by simp))
      (executeFront_frame (·.sweeper.fixedS) (by simp) (by simp)) (executeFront_frame (·.sweeper.run) (by simp) (by simp))
      (executeFront_frame (·.sweeper.sweep) (by simp) (by simp))
  | unknownRequestKind | trigoutPulseExpiry | spacingTimerExpiry | quarantineExpiry | convertSent =>
    exact h.cells.of_eq (by simp [effect]) (by simp [effect]) (by simp [effect]) (by simp [effect]) (by simp [effect])
      (by simp [effect]) (by simp [effect]) (by simp [effect])
  | requestArrival r => exact cellsInv_receiveRequest r h
  | sampleReceived f lines => exact cellsInv_receiveSample f (h.seeLines lines)
  | passbackReceived f => exact cellsInv_receiveIntakeFrame f h
  | badFrame p lines => exact cellsInv_receiveBadFrame p (h.seeLines lines)
  | idleAlignmentSequence p => exact (h.setLink _ _).cells
  | goodIdleGroup p => exact (h.setLink _ _).cells
  | malformedIdleGroup p lines => exact ((h.seeLines lines).setLink _ _).cells
  | lossOfSignal p lines => exact ((h.seeLines lines).setLink _ _).cells
  | frameReceivedWhileAligning p good => exact cellsInv_frameWhileAligning p good h
  | pacerExpiry lines => exact cellsInv_pacerExpires (h.seeLines lines).cells (h.seeLines lines).run
  | sweepStartEdge level lines => exact cellsInv_startLineLevel level (h.seeLines lines).cells (h.seeLines lines).run
  | requestTimeout tag lines => exact cellsInv_requestTimesOut _ (h.seeLines lines).cells (h.seeLines lines).idleRun
  | recordFrameEnd => exact cellsInv_recordEnds h.cells h.delivery
  | frameTransmissionEnd p => exact cellsInv_otherFrameEnds p h.cells h.delivery
  | resetEffects => exact cellsInv_resetCompletes h.cells
  | hardReset straps level =>
    exact (cellsInv_afterReset (nodeOfStraps straps) level).of_eq rfl rfl rfl rfl rfl rfl rfl rfl

theorem CellsAgree.effect (c : Instr) (h : CellsAgree rec s) : CellsAgree rec (effect c s) :=
  ⟨cellsInv_effect c h, runInv_effect c h.run, deliveryInv_effect c h.delivery⟩

end

theorem cellsAgree_step {rec : Prop} : ∀ s t : State, CellsAgree rec s → step s = .next t → CellsAgree rec t :=
  step_keeps (P := CellsAgree rec)
    (fun _ _ h => ⟨h.cells.of_eq rfl rfl rfl rfl rfl rfl rfl rfl, h.run.of_eq rfl rfl rfl rfl, h.delivery.of_delivery rfl rfl⟩)
    (fun c _ h => h.effect c)
    (fun _ h => ⟨h.cells.of_eq (by simp) (by simp) (by simp) (by simp) (by simp) (by simp) (by simp) (by simp),
      h.run.of_eq (by simp) (by simp) (by simp) (by simp), deliveryInv_settle h.delivery⟩)
    (fun _ h => ⟨h.cells.of_eq (by simp) (by simp) (by simp) (by simp) (by simp) (by simp) (by simp) (by simp),
      runInv_idle h.run, h.delivery.of_delivery (by simp) (by simp)⟩)

/-- Settles O12: each operation moves cells from one holding to another, by capture's state; whether the records agree with
their headers is carried along as a condition. -/
theorem everyCellIsInOneHolding : Obligations.EveryCellIsInOneHolding := by
  unfold Obligations.EveryCellIsInOneHolding
  intro s t hcapture hstore hparams hrun hdelivery hs
  have hcells : CellsInv (RecordsInv s) s :=
    ⟨⟨hcapture.core, hstore, id, fun hnil => hdelivery.position (.inl hnil), hparams⟩, hcapture.run⟩
  obtain ⟨⟨⟨hcore, hholds⟩, hrunOk⟩, -, -⟩ := cellsAgree_step s t ⟨hcells, hrun, hdelivery⟩ hs
  exact ⟨hcore.inv hrunOk, hholds.store, hholds.records⟩

end Sys2Proof.Machine
end
